-- ==== Sys2Proof/Word.lean ====
section
/-! DEFINITION. The word types of the KC-192 and their plainest arithmetic (R8, R11, R13, R15). -/

namespace Sys2Proof

/-- One byte. -/
abbrev Byte := BitVec 8

/-- A time word: an unsigned 64-bit count of fine units, modulo 2^64 (R11, R13). -/
abbrev Tw := BitVec 64

/-- One log, uplink or downlink word of 64 bits (R12). -/
abbrev Word := BitVec 64

/-- `num / den` rounded to the nearest integer, ties to even (R15); `den` is positive. -/
def roundEven (num den : Int) : Int :=
  let q := num / den
  let r := num % den
  if 2 * r < den then q
  else if den < 2 * r then q + 1
  else if q % 2 = 0 then q else q + 1

/-- The signed difference of two time words (R13). -/
def twDiff (a b : Tw) : Int := (a - b).toInt

end Sys2Proof
end

