-- ==== Sys2Proof/Syntax.lean ====
section
/-! DEFINITION. The commands of the KC-192: one constructor of `Instr` for each row of spec/opcode_table.json, and the
types of their operands. Every command but the instructions of the feature processors carries `dt`, the timebase ticks
that have passed since the command before it (DESIGN CHOICE, log entry 1). -/

namespace Sys2Proof

abbrev PortId := Fin 192
abbrev CoreId := Fin 24
abbrev ClassId := Fin 64
abbrev TinId := Fin 32
abbrev QueueId := Fin 16384
abbrev GenId := Fin 16
abbrev SessionId := Fin 8
abbrev EthId := Fin 2
abbrev SinkId := Fin 12
/-- A supervised rail, in the order of R407 without VEXC and VLED_IN: VCORE, VSRAM, VLANE, VLANE_H, VIO, VANA, VHBM,
VHBMQ, VPP. -/
abbrev RailId := Fin 9
/-- A temperature sensor of R425: 0-23 die, 24-25 stack. -/
abbrev SensorId := Fin 26

/-- The causes of FAULT that a command can name, R31 in its order; cause 4 is THERMAL_SHUTDOWN. -/
inductive FaultCause where
  | tmr | controllerMemory | bothHbm
  deriving DecidableEq, Repr

/-- The set that SHADOW_REPAIR names (R291 code 0x0022). -/
inductive ShadowSet where
  | epoch | staging | pending
  deriving DecidableEq, Repr

/-- The cause of STORE_FAILED (R291). -/
inductive StoreFailure where
  | erase | program | verify
  deriving DecidableEq, Repr

inductive CanBus where
  | a | b
  deriving DecidableEq, Repr

/-- The memories of a feature processor (R191). -/
inductive FpSpace where
  | p | x | y
  deriving DecidableEq, Repr

/-- The latched sink faults of R395. -/
inductive SinkCause where
  | open | short | dissipation
  deriving DecidableEq, Repr

/-- A lane that is brought up by R86: one of the 192 ports, or one of the four stay lanes (R316). -/
inductive Lane where
  | port (p : PortId)
  | stay (l : Fin 4)
  deriving DecidableEq, Repr

/-- A PTP time: seconds and nanoseconds. -/
structure PtpTime where
  sec : Nat
  ns : Nat
  deriving DecidableEq, Repr

/-- What the device captures of an Ethernet frame (R53): the raw capture in fu within the tick of the command, and the
gearbox and block-alignment latency of this frame in fu, which 10GBASE-R compensates. -/
structure Capture where
  sub : Nat
  gear : Nat
  deriving DecidableEq, Repr

/-- A destuffed frame (R77) as the receiver of R75 delivers it: `flag` is frame-type bit 5, `kind` its bits 4:0,
`stuffError` says that the receiver saw a run of 12 within the frame, and `bits` how many destuffed bits it received from
the marker of the frame before to this one's marker (R89; 2,112 where nothing slipped). -/
structure Frame where
  marker : BitVec 16
  seq : BitVec 10
  flag : Bool
  kind : BitVec 5
  words : List Word
  crc : BitVec 32
  stuffError : Bool
  bits : Nat
  deriving DecidableEq, Repr

/-- What the device captures of an echo word's arrival (R112): the receive-clock cycle as a raw offset in fu from the
tick of the command, the bit position in that cycle, and the phase-interpolator code. -/
structure EchoCapture where
  cycle : Int
  bit : Nat
  code : BitVec 7
  deriving DecidableEq, Repr

/-- A frame on a CAN bus (R269, R270). -/
structure CanFrame where
  extended : Bool
  fd : Bool
  brs : Bool
  id : BitVec 29
  data : List Byte
  deriving DecidableEq, Repr

/-- A data-memory operand of format B: pointer and mode (R196, R228). -/
structure MemOp where
  p : BitVec 3
  m : BitVec 3
  deriving DecidableEq, Repr

/-- A parallel move of a format A word (R219). -/
structure Move where
  enable : Bool
  store : Bool
  reg : BitVec 4
  ptr : BitVec 3
  mode : BitVec 2
  deriving DecidableEq, Repr

/-- The fields of a format A word but its operation (R218). -/
structure FmtA where
  a : BitVec 2
  s : BitVec 3
  t : BitVec 3
  u : BitVec 3
  v : BitVec 3
  x : Move
  y : Move
  deriving DecidableEq, Repr

/-- The commands: the rows of spec/opcode_table.json, in the table's order. -/
inductive Instr where
  /-- SUPPLY_OUT_OF_RANGE (R407). -/
  | supplyOutOfRange (dt : Nat) (rail : RailId)
  /-- POWER_ON_RESET_RELEASE (R408). -/
  | powerOnResetRelease (dt : Nat) (straps : BitVec 8)
  /-- RESET_N (R417). -/
  | resetN (dt : Nat) (straps : BitVec 8)
  /-- WATCHDOG (R417). -/
  | watchdog (dt : Nat) (straps : BitVec 8)
  /-- BOOT_COMPLETE (R419). -/
  | bootComplete (dt : Nat) (imageA imageB : Option (BitVec 32)) (hbm0 hbm1 : Bool)
  /-- FAULT (R31). -/
  | fault (dt : Nat) (cause : FaultCause) (detail : BitVec 32)
  /-- THERMAL_WARNING (R414). -/
  | thermalWarning (dt : Nat) (temp : BitVec 16) (sensor : SensorId)
  /-- THERMAL_CLEAR (R414). -/
  | thermalClear (dt : Nat) (temp : BitVec 16) (sensor : SensorId)
  /-- THERMAL_SHUTDOWN (R414). -/
  | thermalShutdown (dt : Nat) (temp : BitVec 16)
  /-- HBM_TEMP_READ (R413). -/
  | hbmTempRead (dt : Nat) (die t0 t1 : BitVec 16)
  /-- REFCLK_LOSS (R416). -/
  | refclkLoss (dt : Nat) (returned : Bool)
  /-- VEXC_LOW (R407). -/
  | vexcLow (dt : Nat)
  /-- VLED_IN_LOW (R407). -/
  | vledInLow (dt : Nat) (mv : Nat)
  /-- HBM_CONTROLLER_FAILURE (R155). -/
  | hbmControllerFailure (dt : Nat) (stack : Fin 2)
  /-- HBM_DEGRADE (R155). -/
  | hbmDegrade (dt : Nat)
  /-- SCRUB_COMPARE (R297). -/
  | scrubCompare (dt : Nat) (upsets : List (Nat × Nat)) (corrected : Nat)
  /-- SCRUB_RELOAD (R297). -/
  | scrubReload (dt : Nat)
  /-- SHADOW_REPAIR (R296). -/
  | shadowRepair (dt : Nat) (set : ShadowSet) (field : Nat)
  /-- REQUEST_BATCH (R282). -/
  | requestBatch (dt : Nat)
  /-- SESSION_TIMEOUT (R277). -/
  | sessionTimeout (dt : Nat) (n : SessionId)
  /-- COMMIT_APPLY (R40). -/
  | commitApply (dt : Nat)
  /-- STORE_DONE (R293). -/
  | storeDone (dt : Nat) (failure : Option StoreFailure)
  /-- BOOT_IMAGE_PROGRAMMED (R295). -/
  | bootImageProgrammed (dt : Nat) (ok : Bool)
  /-- CAN_BUS_OFF (R269). -/
  | canBusOff (dt : Nat) (bus : CanBus)
  /-- REQ_TAIL (R271). -/
  | reqTail (dt : Nat) (value : BitVec 32) (msgs : List (List Byte))
  /-- RESP_HEAD (R272). -/
  | respHead (dt : Nat) (value : BitVec 32)
  /-- RESP_ARM (R272). -/
  | respArm (dt : Nat) (value : BitVec 32)
  /-- FOLD (R46). -/
  | fold (dt : Nat)
  /-- ANCHOR_ADVANCE (R49). -/
  | anchorAdvance (dt : Nat)
  /-- SYNC (R54). -/
  | sync (dt : Nat) (e : EthId) (cap : Capture) (frame : List Byte)
  /-- FOLLOW_UP (R54). -/
  | followUp (dt : Nat) (e : EthId) (frame : List Byte)
  /-- DELAY_REQ (R54). -/
  | delayReq (dt : Nat) (e : EthId) (seq : BitVec 16) (cap : Capture)
  /-- DELAY_RESP (R54). -/
  | delayResp (dt : Nat) (e : EthId) (frame : List Byte)
  /-- PDELAY_REQ (R52). -/
  | pdelayReq (dt : Nat) (e : EthId) (cap txCap : Capture) (frame : List Byte)
  /-- PDELAY_REQ_SEND (R54). -/
  | pdelayReqSend (dt : Nat) (e : EthId) (seq : BitVec 16) (cap : Capture)
  /-- PDELAY_RESP (R54). -/
  | pdelayResp (dt : Nat) (e : EthId) (cap : Capture) (frame : List Byte)
  /-- ANNOUNCE (R55). -/
  | announce (dt : Nat) (e : EthId) (frame : List Byte)
  /-- EXCHANGE_TIMEOUT (R54). -/
  | exchangeTimeout (dt : Nat) (e : EthId)
  /-- ANNOUNCE_TIMEOUT (R55). -/
  | announceTimeout (dt : Nat) (e : EthId)
  /-- ETH_LINK_CHANGE (R55). -/
  | ethLinkChange (dt : Nat) (e : EthId) (up : Bool)
  /-- ARP_REQUEST (R52). -/
  | arpRequest (dt : Nat) (e : EthId) (frame : List Byte)
  /-- ETH_FRAME_DROPPED (R52). -/
  | ethFrameDropped (dt : Nat) (e : EthId)
  /-- ESMC (R50). -/
  | esmc (dt : Nat) (e : EthId) (ql : Nat)
  /-- ESMC_TIMEOUT (R50). -/
  | esmcTimeout (dt : Nat)
  /-- HOLD_CLK_QUALIFICATION (R50). -/
  | holdClkQualification (dt : Nat) (inRange : Bool)
  /-- PULSE_FIRE (R65). -/
  | pulseFire (dt : Nat) (n : GenId)
  /-- PULSE_END (R65). -/
  | pulseEnd (dt : Nat) (n : GenId)
  /-- DETECT_ENERGY (R86). -/
  | detectEnergy (dt : Nat) (l : Lane)
  /-- CDR_LOCK (R86). -/
  | cdrLock (dt : Nat) (l : Lane) (ppm : Int)
  /-- BRINGUP_TIMEOUT (R87). -/
  | bringupTimeout (dt : Nat) (l : Lane)
  /-- SIGNAL_LOSS (R88). -/
  | signalLoss (dt : Nat) (l : Lane) (sub : Nat)
  /-- UPLINK_TRAIN (R86). -/
  | uplinkTrain (dt : Nat) (l : Lane) (sub : Nat) (wire : List Bool)
  /-- UPLINK_CAP (R91). -/
  | uplinkCap (dt : Nat) (l : Lane) (sub : Nat) (wire : List Bool)
  /-- UPLINK_FILL (R79). -/
  | uplinkFill (dt : Nat) (l : Lane) (sub : Nat) (wire : List Bool)
  /-- UPLINK_DATA (R88). -/
  | uplinkData (dt : Nat) (p : PortId) (sub : Nat) (wire : List Bool) (echoes : List EchoCapture)
  /-- RESERVED_KIND_FRAME (R80). -/
  | reservedKindFrame (dt : Nat) (l : Lane) (sub : Nat) (wire : List Bool)
  /-- IDLE_EXIT_TIMEOUT (R95). -/
  | idleExitTimeout (dt : Nat) (p : PortId)
  /-- QUARANTINE_HOLD_EXPIRY (R105). -/
  | quarantineHoldExpiry (dt : Nat) (l : Lane)
  /-- DOWNLINK_FRAME (R85). -/
  | downlinkFrame (dt : Nat) (l : Lane) (sub : Nat)
  /-- DEEP_POWER_DOWN (R94). -/
  | deepPowerDown (dt : Nat) (lg : CoreId)
  /-- LANE_GROUP_PLL_LOCK (R94). -/
  | laneGroupPllLock (dt : Nat) (lg : CoreId)
  /-- SLICE_SEAL (R130). -/
  | sliceSeal (dt : Nat)
  /-- SLICE_CLOSE (R132). -/
  | sliceClose (dt : Nat) (corrected : Nat) (badWords : List Nat)
  /-- SLICE_INDEXED (R22). -/
  | sliceIndexed (dt : Nat)
  /-- STRAGGLER_COUNT_FINAL (R135). -/
  | stragglerCountFinal (dt : Nat)
  /-- LOSS_LOG_WRITE (R153). -/
  | lossLogWrite (dt : Nat)
  /-- ALERT_DATAGRAM (R173). -/
  | alertDatagram (dt : Nat) (e : EthId) (cap : Capture) (frame : List Byte)
  /-- QUEUE_ENABLE (R243). -/
  | queueEnable (dt : Nat) (q : QueueId) (control : BitVec 8)
  /-- QUEUE_DISABLE (R260). -/
  | queueDisable (dt : Nat) (q : QueueId) (control : BitVec 8)
  /-- DESC_TAIL (R245). -/
  | descTail (dt : Nat) (q : QueueId) (value : BitVec 32)
  /-- COMPL_HEAD (R245). -/
  | complHead (dt : Nat) (q : QueueId) (value : BitVec 32)
  /-- COMPL_ARM (R258). -/
  | complArm (dt : Nat) (q : QueueId) (value : BitVec 32)
  /-- DESCRIPTOR_READ_DONE (R244). -/
  | descriptorReadDone (dt : Nat) (q : QueueId) (d : Option (List Byte))
  /-- TRANSFER_START (R255). -/
  | transferStart (dt : Nat) (q : QueueId) (upsetBlocks upsetEntries : List Nat)
  /-- TRANSFER_COMPLETE (R256). -/
  | transferComplete (dt : Nat) (q : QueueId)
  /-- WAIT_LIMIT_EXPIRY (R254). -/
  | waitLimitExpiry (dt : Nat) (q : QueueId)
  /-- MODERATION_TIMEOUT (R258). -/
  | moderationTimeout (dt : Nat) (q : QueueId)
  /-- PCIE_LINK_UP (R237). -/
  | pcieLinkUp (dt : Nat) (gen width : Nat) (busMaster d0 relaxed : Bool) (mps : Nat)
  /-- PCIE_LINK_DOWN (R261). -/
  | pcieLinkDown (dt : Nat)
  /-- FUNCTION_LEVEL_RESET (R261). -/
  | functionLevelReset (dt : Nat)
  /-- HOT_RESET (R261). -/
  | hotReset (dt : Nat)
  /-- PERST_N (R261). -/
  | perstN (dt : Nat)
  /-- BUS_MASTER_DISABLE (R261). -/
  | busMasterDisable (dt : Nat)
  /-- D3HOT_ENTRY (R261). -/
  | d3hotEntry (dt : Nat)
  /-- FP_LOAD_DONE (R210). -/
  | fpLoadDone (dt : Nat) (g : CoreId)
  /-- FP_UPSET (R213). -/
  | fpUpset (dt : Nat) (g : CoreId) (space : FpSpace) (addr : Nat) (double : Bool)
  /-- FP_RELOAD (R213). -/
  | fpReload (dt : Nat) (g : CoreId)
  /-- PACKET_START (R200). -/
  | packetStart (dt : Nat) (g : CoreId)
  /-- BUDGET_EXHAUSTED (R199). -/
  | budgetExhausted (dt : Nat) (g : CoreId)
  /-- PC_RANGE (R204). -/
  | pcRange (dt : Nat) (g : CoreId)
  /-- UNCORRECTABLE (R204). -/
  | uncorrectable (dt : Nat) (g : CoreId) (space : FpSpace) (addr : Nat)
  /-- ILLEGAL (R221). -/
  | illegal (dt : Nat) (g : CoreId)
  /-- MV (R227). -/
  | mv (g : CoreId) (f : FmtA)
  /-- FMUL (R227). -/
  | fmul (g : CoreId) (f : FmtA)
  /-- FMULR (R227). -/
  | fmulr (g : CoreId) (f : FmtA)
  /-- FMAC (R227). -/
  | fmac (g : CoreId) (f : FmtA)
  /-- FMACR (R227). -/
  | fmacr (g : CoreId) (f : FmtA)
  /-- FMSB (R227). -/
  | fmsb (g : CoreId) (f : FmtA)
  /-- FMSBR (R227). -/
  | fmsbr (g : CoreId) (f : FmtA)
  /-- ZERO (R227). -/
  | zero (g : CoreId) (f : FmtA)
  /-- LDA (R227). -/
  | lda (g : CoreId) (f : FmtA)
  /-- ADDW (R227). -/
  | addw (g : CoreId) (f : FmtA)
  /-- SUBW (R227). -/
  | subw (g : CoreId) (f : FmtA)
  /-- CMPW (R227). -/
  | cmpw (g : CoreId) (f : FmtA)
  /-- ABSA (R227). -/
  | absa (g : CoreId) (f : FmtA)
  /-- NEGA (R227). -/
  | nega (g : CoreId) (f : FmtA)
  /-- RNDA (R225). -/
  | rnda (g : CoreId) (f : FmtA)
  /-- SHL1 (R227). -/
  | shl1 (g : CoreId) (f : FmtA)
  /-- SHR1 (R227). -/
  | shr1 (g : CoreId) (f : FmtA)
  /-- CPYA (R227). -/
  | cpya (g : CoreId) (f : FmtA)
  /-- SUMA (R227). -/
  | suma (g : CoreId) (f : FmtA)
  /-- DIFA (R227). -/
  | difa (g : CoreId) (f : FmtA)
  /-- ANDW (R227). -/
  | andw (g : CoreId) (f : FmtA)
  /-- ORW (R227). -/
  | orw (g : CoreId) (f : FmtA)
  /-- XORW (R227). -/
  | xorw (g : CoreId) (f : FmtA)
  /-- DMUL (R227). -/
  | dmul (g : CoreId) (f : FmtA)
  /-- DMAC (R227). -/
  | dmac (g : CoreId) (f : FmtA)
  /-- DMSB (R227). -/
  | dmsb (g : CoreId) (f : FmtA)
  /-- DMACR (R227). -/
  | dmacr (g : CoreId) (f : FmtA)
  /-- SMAC (R227). -/
  | smac (g : CoreId) (f : FmtA)
  /-- NOP (R228). -/
  | nop (g : CoreId)
  /-- LDI (R228). -/
  | ldi (g : CoreId) (d : BitVec 3) (i : BitVec 24)
  /-- ADDI (R228). -/
  | addi (g : CoreId) (d : BitVec 3) (i : BitVec 24)
  /-- ANDI (R228). -/
  | andi (g : CoreId) (d : BitVec 3) (i : BitVec 24)
  /-- ORI (R228). -/
  | ori (g : CoreId) (d : BitVec 3) (i : BitVec 24)
  /-- ADDD (R228). -/
  | addd (g : CoreId) (d e f : BitVec 3)
  /-- SUBD (R228). -/
  | subd (g : CoreId) (d e f : BitVec 3)
  /-- SRAI (R228). -/
  | srai (g : CoreId) (d : BitVec 3) (n : BitVec 5)
  /-- SLLI (R228). -/
  | slli (g : CoreId) (d : BitVec 3) (n : BitVec 5)
  /-- LDP (R228). -/
  | ldp (g : CoreId) (n : BitVec 3) (i : BitVec 16)
  /-- LDN (R228). -/
  | ldn (g : CoreId) (n : BitVec 3) (i : BitVec 16)
  /-- LEA (R228). -/
  | lea (g : CoreId) (d s : BitVec 3) (i : BitVec 16)
  /-- RDR (R229). -/
  | rdr (g : CoreId) (d : BitVec 3) (s : BitVec 5)
  /-- WRR (R229). -/
  | wrr (g : CoreId) (d : BitVec 5) (s : BitVec 3)
  /-- GETA (R228). -/
  | geta (g : CoreId) (d : BitVec 3) (a x : BitVec 2)
  /-- LDX (R228). -/
  | ldx (g : CoreId) (d : BitVec 3) (ea : MemOp)
  /-- STX (R228). -/
  | stx (g : CoreId) (d : BitVec 3) (ea : MemOp)
  /-- LDY (R228). -/
  | ldy (g : CoreId) (d : BitVec 3) (ea : MemOp)
  /-- STY (R228). -/
  | sty (g : CoreId) (d : BitVec 3) (ea : MemOp)
  /-- MAXS (R232). -/
  | maxs (g : CoreId) (a : BitVec 2) (ea : MemOp) (k : BitVec 3)
  /-- CMPM (R228). -/
  | cmpm (g : CoreId) (a : BitVec 2) (ea : MemOp)
  /-- FTAP (R234). -/
  | ftap (g : CoreId) (a : BitVec 2) (i j : BitVec 3)
  /-- DIVS (R233). -/
  | divs (g : CoreId) (a : BitVec 2) (d : BitVec 3)
  /-- IMUL (R228). -/
  | imul (g : CoreId) (a : BitVec 2) (s t : BitVec 3)
  /-- IMAC (R228). -/
  | imac (g : CoreId) (a : BitVec 2) (s t : BitVec 3)
  /-- SRAA (R228). -/
  | sraa (g : CoreId) (a : BitVec 2) (n : BitVec 6)
  /-- SLLA (R228). -/
  | slla (g : CoreId) (a : BitVec 2) (n : BitVec 6)
  /-- LOOP (R197). -/
  | loop (g : CoreId) (c : BitVec 16) (n : BitVec 14)
  /-- LOOPR (R197). -/
  | loopr (g : CoreId) (d : BitVec 3) (n : BitVec 14)
  /-- JUMP (R228). -/
  | jump (g : CoreId) (addr : BitVec 14)
  /-- J_CC (R230). -/
  | jcc (g : CoreId) (cc : BitVec 4) (addr : BitVec 14)
  /-- EXIT_CC (R231). -/
  | exitcc (g : CoreId) (cc : BitVec 4)
  /-- EMIT (R235). -/
  | emit (g : CoreId) (d e : BitVec 3)
  /-- PRIM (R235). -/
  | prim (g : CoreId) (d : BitVec 3) (k : BitVec 6)
  /-- DONE (R200). -/
  | done (g : CoreId)
  /-- SATU (R226). -/
  | satu (g : CoreId) (d : BitVec 3) (a : BitVec 2)
  /-- TIN_EDGE (R353). -/
  | tinEdge (dt : Nat) (n : TinId) (falling : Bool) (cycle : Fin 8) (k : BitVec 8)
  /-- TIN_EDGE_HANDLED (R355). -/
  | tinEdgeHandled (dt : Nat) (n : TinId)
  /-- GATE_TIMEOUT (R355). -/
  | gateTimeout (dt : Nat) (n : TinId)
  /-- FREQUENCY_GATE (R356). -/
  | frequencyGate (dt : Nat) (n : TinId)
  /-- INTERP_LOCK_CHANGE (R349). -/
  | interpLockChange (dt : Nat) (n : TinId) (b : Bool) (locked : Bool)
  /-- MONITOR_START (R377). -/
  | monitorStart (dt : Nat)
  /-- SETTLE_END (R366). -/
  | settleEnd (dt : Nat)
  /-- CONVERSION_RESULT (R366). -/
  | conversionResult (dt : Nat) (raw : Int)
  /-- BREAK_CHECK_DONE (R378). -/
  | breakCheckDone (dt : Nat) (raw : Int)
  /-- INJECTED_SEQUENCE_BEGIN (R374). -/
  | injectedSequenceBegin (dt : Nat)
  /-- EXC_FAULT (R370). -/
  | excFault (dt : Nat) (k : Fin 8) (condition : BitVec 3)
  /-- EXC_FAULT_CLEAR (R370). -/
  | excFaultClear (dt : Nat) (k : Fin 8)
  /-- EXC_DRIVER_OFF (R370). -/
  | excDriverOff (dt : Nat) (k : Fin 8) (retry : Bool)
  /-- TRIM_COMPARE (R380). -/
  | trimCompare (dt : Nat) (mismatch fuseOk : Bool)
  /-- TRIM_RELOAD_DONE (R381). -/
  | trimReloadDone (dt : Nat)
  /-- DIM_SLOT (R396). -/
  | dimSlot (dt : Nat) (volts : List (SinkId × Nat))
  /-- BOOST_UPDATE (R391). -/
  | boostUpdate (dt : Nat)
  /-- BOOST_OVP (R393). -/
  | boostOvp (dt : Nat) (mv : Nat)
  /-- SINK_FAULT (R395). -/
  | sinkFault (dt : Nat) (s : SinkId) (cause : SinkCause) (mv : Nat)
  /-- LOW_HEADROOM (R395). -/
  | lowHeadroom (dt : Nat) (s : SinkId) (low : Bool)
  /-- LAMP_RESPONSE (R400). -/
  | lampResponse (dt : Nat) (response : Option (BitVec 32))
  /-- LAMP_FLASH_FRAME (R401). -/
  | lampFlashFrame (dt : Nat)
  /-- GRANT (R323). -/
  | grant (dt : Nat) (frame : CanFrame) (helm : Bool)
  /-- HELM_IN_HIGH (R323). -/
  | helmInHigh (dt : Nat)
  /-- GRANT_HELM_TIMEOUT (R323). -/
  | grantHelmTimeout (dt : Nat)
  /-- ASSIGN_MIZZEN (R340). -/
  | assignMizzen (dt : Nat) (frame : CanFrame)
  /-- ASSIGN_FENCED (R324). -/
  | assignFenced (dt : Nat) (frame : CanFrame)
  /-- STATUS (R322). -/
  | status (dt : Nat)
  /-- LEASE_EXPIRED (R324). -/
  | leaseExpired (dt : Nat)
  /-- HELM_LOW (R324). -/
  | helmLow (dt : Nat)
  /-- TAKEOVER (R337). -/
  | takeover (dt : Nat)
  /-- SLICE (R329). -/
  | slice (dt : Nat)
  /-- DIGEST (R333). -/
  | digest (dt : Nat)
  /-- DELAY (R118). -/
  | delay (dt : Nat)
  /-- START (R98). -/
  | start (dt : Nat)
  /-- COMMIT_MESSAGE (R285). -/
  | commitMessage (dt : Nat)
  /-- ARM_MESSAGE (R67). -/
  | armMessage (dt : Nat)
  /-- IMAGE (R209). -/
  | image (dt : Nat)
  /-- SNAPSHOT (R336). -/
  | snapshot (dt : Nat)
  /-- SNAPSHOT_TAKE (R335). -/
  | snapshotTake (dt : Nat)
  /-- TAKEOVER_MESSAGE (R324). -/
  | takeoverMessage (dt : Nat)
  /-- HELLO (R318). -/
  | hello (dt : Nat)
  /-- HELLO_SEND (R318). -/
  | helloSend (dt : Nat)
  /-- JOIN_MESSAGE (R341). -/
  | joinMessage (dt : Nat)
  /-- ACK (R318). -/
  | ack (dt : Nat)
  /-- STAY_RETRANSMIT (R317). -/
  | stayRetransmit (dt : Nat)
  /-- PARTNER_LOST (R316). -/
  | partnerLost (dt : Nat)
  /-- MIZZEN_WAIT_EXPIRY (R329). -/
  | mizzenWaitExpiry (dt : Nat)
  /-- DA_WAIT_EXPIRY (R329). -/
  | daWaitExpiry (dt : Nat) (p : PortId)
  /-- JOIN_SLICE (R341). -/
  | joinSlice (dt : Nat)
  /-- DRILL_OVERDUE (R342). -/
  | drillOverdue (dt : Nat)
  /-- EXTEST (R422). -/
  | extest (dt : Nat)
  /-- IDCODE (R421). -/
  | idcode (dt : Nat)
  /-- SAMPLE_PRELOAD (R422). -/
  | samplePreload (dt : Nat)
  /-- HIGHZ (R422). -/
  | highz (dt : Nat)
  /-- CLAMP (R422). -/
  | clamp (dt : Nat)
  /-- EXTEST_PULSE (R422). -/
  | extestPulse (dt : Nat)
  /-- EXTEST_TRAIN (R422). -/
  | extestTrain (dt : Nat)
  /-- HBM0_1500 (R422). -/
  | hbm01500 (dt : Nat)
  /-- HBM1_1500 (R422). -/
  | hbm11500 (dt : Nat)
  /-- STATE (R422). -/
  | jtagState (dt : Nat)
  /-- DEVICE_RESET (R422). -/
  | deviceReset (dt : Nat)
  /-- BOOT_RELEASE (R422). -/
  | bootRelease (dt : Nat)
  /-- BYPASS (R422). -/
  | bypass (dt : Nat)
  /-- SUPPLY_IN_RANGE (R408). -/
  | supplyInRange (dt : Nat) (rail : RailId)
  /-- SYNCE_FREQUENCY_OUT_OF_RANGE (R50). -/
  | synceFrequencyOutOfRange (dt : Nat)
  /-- PHASE_INTERPOLATOR_READ (R115). -/
  | phaseInterpolatorRead (dt : Nat) (p : PortId) (code : BitVec 7)
  /-- LCP_CAN_FRAME (R269). -/
  | lcpCanFrame (dt : Nat) (bus : CanBus) (f : CanFrame)
  /-- BAR0_SHADOW_WRITE (R240). -/
  | bar0ShadowWrite (dt : Nat) (offset size : Nat) (value : BitVec 64)
  /-- QUEUE_TABLE_WRITE (R242). -/
  | queueTableWrite (dt : Nat) (q : QueueId) (offset size : Nat) (value : BitVec 64)
  /-- BAD_ACCESS (R239). -/
  | badAccess (dt : Nat) (bar : Nat) (write : Bool) (offset size : Nat)
  /-- STAY_LINK_FRAME (R317). -/
  | stayLinkFrame (dt : Nat) (lane : Fin 4) (wire : List Bool)
  /-- TMR_CORRECTION (R296). -/
  | tmrCorrection (dt : Nat)
  /-- PERST_N_RELEASE (R420). -/
  | perstNRelease (dt : Nat)
  /-- LAMP_FLASH_FRAME_END (R401). -/
  | lampFlashFrameEnd (dt : Nat)
  /-- TAP_RESET (R421). -/
  | tapReset (dt : Nat)
  deriving DecidableEq, Repr

end Sys2Proof
end

