-- ==== Sys2Proof/Decode.lean ====
section
/-! DEFINITION. The commands that a word spells by the bits of spec/opcode_table.json. No row of the table gives bits:
every row's `fields` is empty, so no word spells a command. The 48-bit words of the feature processors (R217 to R219),
which the device reads from its own program memories, are decoded in Machine/FpDecode.lean. -/

namespace Sys2Proof

/-- The command that a word spells: none, because the table gives no row any bits. -/
def decodeTableWord (_nbits _w : Nat) : Option Instr := none

end Sys2Proof
end

