-- ==== Sys2Proof/Machine/Bits.lean ====
section
/-! DEFINITION. Bytes, byte orders (R9) and the cyclic redundancy checks that the manual names: CRC-32 of the frames
(R78), CRC-32C (R141), CRC-64 of the digests (R332) and CRC-8 of the lamp bus (R399). -/

namespace Sys2Proof.Machine

/-- The `n` bytes of a number, least significant first (R9). -/
def leBytes : Nat → Nat → List Byte
  | 0, _ => []
  | n + 1, v => BitVec.ofNat 8 v :: leBytes n (v / 256)

/-- The number that bytes spell, least significant first. -/
def leNat : List Byte → Nat
  | [] => 0
  | b :: bs => b.toNat + 256 * leNat bs

/-- The number that bytes spell, most significant first (network order, R9). -/
def beNat (bs : List Byte) : Nat := bs.foldl (fun a b => a * 256 + b.toNat) 0

/-- The bytes `off` to `off + n - 1` of a message as a number, least significant first. -/
def leAt (bs : List Byte) (off n : Nat) : Nat := leNat ((bs.drop off).take n)

/-- The same in network order. -/
def beAt (bs : List Byte) (off n : Nat) : Nat := beNat ((bs.drop off).take n)

/-- The `n` low bits of a number, most significant first (R76). -/
def bitsMsb : Nat → Nat → List Bool
  | 0, _ => []
  | n + 1, v => v.testBit n :: bitsMsb n v

/-- The 8 bits of a byte, least significant first. -/
def byteLsb (b : Byte) : List Bool := [b.getLsbD 0, b.getLsbD 1, b.getLsbD 2, b.getLsbD 3, b.getLsbD 4, b.getLsbD 5,
  b.getLsbD 6, b.getLsbD 7]

/-- One bit into a CRC register that shifts left. -/
def crcLeft {w : Nat} (poly reg : BitVec w) (bit : Bool) : BitVec w :=
  if (reg.msb ^^ bit) then (reg <<< 1) ^^^ poly else reg <<< 1

/-- One bit into a CRC register that shifts right. -/
def crcRight {w : Nat} (poly reg : BitVec w) (bit : Bool) : BitVec w :=
  if (reg.getLsbD 0 ^^ bit) then (reg >>> 1) ^^^ poly else reg >>> 1

/-- CRC-32 of a frame: generator 0x04C11DB7, no reflection, initial all ones, final complement (R78). -/
def crc32Frame (bits : List Bool) : BitVec 32 :=
  ~~~ (bits.foldl (crcLeft 0x04C11DB7#32) 0xFFFFFFFF#32)

/-- CRC-32C: polynomial 0x1EDC6F41, reflected, initial all ones, final complement (R141). -/
def crc32c (bs : List Byte) : BitVec 32 :=
  ~~~ ((bs.flatMap byteLsb).foldl (crcRight 0x82F63B78#32) 0xFFFFFFFF#32)

/-- CRC-64 of a slice digest: polynomial 0x42F0E1EBA9EA3693, no reflection, initial all ones, complement (R332). -/
def crc64 (bs : List Byte) : BitVec 64 :=
  ~~~ ((bs.flatMap (fun b => bitsMsb 8 b.toNat)).foldl (crcLeft 0x42F0E1EBA9EA3693#64) 0xFFFFFFFFFFFFFFFF#64)

/-- CRC-8 of a lamp-bus frame: polynomial 0x07, initial 0, no reflection, no complement (R399). -/
def crc8 (bits : List Bool) : BitVec 8 := bits.foldl (crcLeft 0x07#8) 0#8

/-- The 8 bytes of a word, least significant first (R9). -/
def wordBytes (w : Word) : List Byte := leBytes 8 w.toNat

/-- Bit `n` of a number. -/
def bit (v n : Nat) : Bool := v.testBit n

/-- Bits `hi:lo` of a number (R8). -/
def field (v hi lo : Nat) : Nat := v / 2 ^ lo % 2 ^ (hi + 1 - lo)

/-- A Boolean as the bit 0 or 1. -/
def bnat (b : Bool) : Nat := if b then 1 else 0

/-- The signed value of the low `w` bits of a number. -/
def signed (w v : Nat) : Int := (BitVec.ofNat w v).toInt

end Sys2Proof.Machine
end

