-- ==== Sys2Proof/Config.lean ====
section
/-! DEFINITION. What one KC-192 unit fixes, and the free values: what the manual leaves open has no body here, so that
nothing can be proved about its value. Constants that the manual states are numerals. -/

namespace Sys2Proof

/-- Fine units in one tick of the timebase (R10). -/
def tickFu : Nat := 8192

/-- Fine units in one slice (R10). -/
def sliceFu : Nat := 1048576

/-- The serial number of this unit (R310: per unit, 1 to 2^64 - 1); log entry 7. -/
opaque Config.serial : BitVec 64

/-- The PCI vendor identifier (R310: not given); log entry 7. -/
opaque Config.vendorId : BitVec 16

/-- True for KC192-H48-S (R1, R310: both codes exist, the unit is one of them); log entry 7. -/
opaque Config.isCodeS : Bool

/-- The wafer-lot code as a string (R310: per lot); log entry 7. -/
opaque Config.lotCode : List Byte

/-- The manufacture date, decimal yyyymmdd (R310: per unit); log entry 7. -/
opaque Config.manufactureDate : BitVec 32

/-- The JEP106 code in the JTAG IDCODE (R421: not given); log entry 7. -/
opaque Config.jep106 : BitVec 11

/-- Bit 25 of the word that the STATE instruction shows (R422): its field has ten bits, and R407 names nine supervised
rails; log entry 6. -/
opaque Config.railBit9 : Bool

/-- Which way the servo rounds a quotient that is not whole (R56 states no rounding): true is up; log entry 6. -/
opaque Config.quotientUp : Nat → Bool

/-- A free bit vector for the n-th value that the manual leaves undefined; log entry 6. -/
opaque Config.freeBits : Nat → BitVec 64

/-- The receive latency of an uplink, in port-delay units (R112: the device's own; not given); log entry 6. -/
opaque Config.uplinkLatency : Nat → Int

/-- The latency of a timing input by input and falling edge, in fu (R350: calibrated per unit); log entry 6. -/
opaque Config.tinLatency : Nat → Bool → Int

/-- The trimmed code of a raw code at a range, by channel (R380: the trim is per unit); log entry 6. -/
opaque Config.trimmed : Nat → Nat → Int → Int

/-- The code that nominal trim gives (R380); log entry 6. -/
opaque Config.nominal : Nat → Nat → Int → Int

/-- The physical value of an internal channel's code (R364, R380), by channel, with the factory trim of its divider where the
first argument is true and with nominal values where it is false; log entry 6. -/
opaque Config.physical : Bool → Nat → Int → Int

/-- Whether the first of two master data sets is the better one (IEEE 1588 clause 9.3.4, cited by R55, not given here);
the arguments are the announced data sets as numbers; log entry 6. -/
opaque Config.betterMaster : Nat → Nat → Bool

/-- The clock identity of a PTP instance (IEEE 1588-2019, cited by R52: per unit, not given); log entry 7. -/
opaque Config.clockIdentity : Nat → BitVec 64

/-- The hardware address of an Ethernet port (per unit, not given); log entry 7. -/
opaque Config.mac : Nat → BitVec 48

/-- The string supply VLED_IN in mV (R391: between 10.8 V and 13.2 V, as the board gives it); log entry 6. -/
opaque Config.vledIn : Nat

/-- The diode drop of the boost stage in mV (R391: not given); log entry 6. -/
opaque Config.diodeDrop : Nat

/-- The raw time in fu that the reading of a log block for a record takes, by the record sequence and the block's place among
those that the record needs (R147); log entry 6. -/
opaque Config.readTime : Nat → Nat → Nat

end Sys2Proof
end

