-- ==== Sys2Proof/Machine/Tab.lean ====
section
/-! DEFINITION. Sparse tables: lists of keys and values. `put` keeps the keys rising; with `set` no entry equals what
an unlisted key reads as, so that equal tables are equal lists. -/

namespace Sys2Proof.Machine

/-- A sparse table from numbers to values. -/
abbrev Tab (α : Type) := List (Nat × α)

/-- The entry at a key. -/
def Tab.look {α : Type} : Tab α → Nat → Option α
  | [], _ => none
  | (k, v) :: t, i => if i = k then some v else Tab.look t i

/-- The table with an entry put in its place. -/
def Tab.put {α : Type} : Tab α → Nat → α → Tab α
  | [], i, v => [(i, v)]
  | (k, w) :: t, i, v =>
    if i < k then (i, v) :: (k, w) :: t
    else if i = k then (i, v) :: t
    else (k, w) :: Tab.put t i v

/-- The table without a key. -/
def Tab.drop {α : Type} (t : Tab α) (i : Nat) : Tab α := t.filter (fun e => e.1 ≠ i)

/-- What a key reads as; `d` is what an unlisted key reads as. -/
def Tab.get {α : Type} (d : α) (t : Tab α) (i : Nat) : α := (Tab.look t i).getD d

/-- A write in canonical form: writing what an unlisted key reads as removes the entry. -/
def Tab.set {α : Type} [DecidableEq α] (d : α) (t : Tab α) (i : Nat) (v : α) : Tab α :=
  if v = d then Tab.drop t i else Tab.put t i v

/-- Write a list of values from a key on. -/
def Tab.setAll {α : Type} [DecidableEq α] (d : α) (t : Tab α) (i : Nat) : List α → Tab α
  | [] => t
  | v :: vs => Tab.setAll d (Tab.set d t i v) (i + 1) vs

/-- The keys rise strictly. -/
abbrev Tab.sorted {α : Type} (t : Tab α) : Prop := (t.map Prod.fst).Pairwise (· < ·)

/-- The canonical form: keys rising, and no entry equal to what an unlisted key reads as. -/
abbrev Tab.wf {α : Type} (d : α) (t : Tab α) : Prop := Tab.sorted t ∧ ∀ e ∈ t, e.2 ≠ d

end Sys2Proof.Machine
end

