-- ==== Sys2Proof/Machine/Objects.lean ====
section
/-! DEFINITION. The object dictionary (11_object_dictionary.md): every row of every object table, the addresses of the
objects (R16, R300), and the checks of ranges and clamp targets (R305). -/

namespace Sys2Proof.Machine

/-- The key of index.sub in the tables of the state (R16). The functions below that give the key of a status object of one
port, class, core, input, channel or generator take its number modulo how many there are: no key leaves its objects. -/
def key (index sub : Nat) : Nat := index * 256 + sub

/-- The key of a channel-offset entry (R120): port p, channel c. -/
def chanKey (p c : Nat) : Nat := 0x1000000 + p * 4096 + c

/-- The key of a group-table field (R251): group g, byte offset of the field in the entry. -/
def groupKey (g off : Nat) : Nat := 0x2000000 + g * 64 + off

/-- The types of R18. -/
inductive ObjTy where
  | bool | u8 | u16 | u32 | u64 | i16 | i32 | i64 | time | domain | string
  deriving DecidableEq, Repr

/-- The width of a type in bytes (R274); 0 for a DOMAIN or STRING. -/
def ObjTy.bytes : ObjTy → Nat
  | .bool => 1 | .u8 => 1 | .u16 => 2 | .u32 => 4 | .u64 => 8 | .i16 => 2 | .i32 => 4 | .i64 => 8 | .time => 8
  | .domain => 0 | .string => 0

/-- True for the signed types (R303). -/
def ObjTy.signed : ObjTy → Bool
  | .i16 => true | .i32 => true | .i64 => true
  | .bool => false | .u8 => false | .u16 => false | .u32 => false | .u64 => false | .time => false | .domain => false
  | .string => false

/-- The number that a raw value of a type stands for (R303: two's complement). -/
def ObjTy.toInt (ty : ObjTy) (raw : Nat) : Int :=
  if ty.signed && decide (2 ^ (8 * ty.bytes - 1) ≤ raw) then (raw : Int) - 2 ^ (8 * ty.bytes) else raw

/-- The raw value of a number. -/
def ObjTy.ofInt (ty : ObjTy) (v : Int) : Nat := (v % 2 ^ (8 * ty.bytes)).toNat

/-- The accesses of R18. -/
inductive Access where
  | ro | rw | wo | const
  deriving DecidableEq, Repr

/-- The Out of range column (R305). -/
inductive Clamp where
  | value (v : Nat) | nearest | mask (m : Nat) | refused | ignored | none
  deriving DecidableEq, Repr

/-- When a write acts (R307): S staged, I now, A at the Arm, B at the next BOOT. -/
inductive Effect where
  | staged | now | arm | boot | none
  deriving DecidableEq, Repr

/-- One row of an object table, for `span` consecutive indices and the subindices `lo` to `hi`. -/
structure ObjRow where
  index : Nat
  span : Nat
  lo : Nat
  hi : Nat
  ty : ObjTy
  acc : Access
  expert : Bool
  dflt : Nat
  ranges : List (Int × Int)
  clamp : Clamp
  eff : Effect
  deriving DecidableEq, Repr

/-- An object as the machine reads it: its key and its default. -/
structure Obj where
  key : Nat
  dflt : Nat
  deriving DecidableEq, Repr

/-- Rows of the object tables, part 1 (R26 to R72). -/
def objRows1 : List ObjRow := [
  ⟨0x2000, 1, 0, 0, .u8, .ro, false, 0, [(0, 255)], .none, .none⟩,
  ⟨0x2001, 1, 0, 0, .u8, .rw, false, 0, [(0, 1)], .value 0, .staged⟩,
  ⟨0x2100, 1, 0, 0, .time, .ro, false, 0, [(0, 18446744073709551615)], .none, .none⟩,
  ⟨0x2101, 1, 1, 1, .bool, .ro, false, 0, [(0, 1)], .none, .none⟩,
  ⟨0x2101, 1, 2, 2, .time, .ro, false, 0, [(0, 18446744073709551615)], .none, .none⟩,
  ⟨0x2101, 1, 3, 3, .u64, .ro, false, 0, [(0, 18446744073709551615)], .none, .none⟩,
  ⟨0x2101, 1, 4, 4, .u32, .ro, false, 0, [(0, 4294967295)], .none, .none⟩,
  ⟨0x2102, 1, 1, 1, .u8, .rw, false, 0, [(0, 1)], .value 0, .staged⟩,
  ⟨0x2102, 1, 2, 2, .time, .wo, false, 0, [(0, 18446744073709551615)], .none, .now⟩,
  ⟨0x2103, 1, 0, 0, .u32, .rw, false, 500, [(100, 1000000)], .nearest, .staged⟩,
  ⟨0x2104, 1, 0, 0, .u8, .rw, false, 0, [(0, 2)], .value 0, .staged⟩,
  ⟨0x2105, 2, 1, 1, .bool, .rw, false, 0, [(0, 1)], .none, .staged⟩,
  ⟨0x2105, 2, 2, 2, .u8, .rw, false, 1, [(0, 1)], .value 1, .staged⟩,
  ⟨0x2105, 2, 3, 3, .u8, .rw, false, 0, [(0, 1)], .value 0, .staged⟩,
  ⟨0x2105, 2, 4, 4, .u8, .rw, false, 1, [(1, 2)], .value 1, .staged⟩,
  ⟨0x2105, 2, 5, 5, .u8, .rw, false, 0, [(0, 127)], .value 0, .staged⟩,
  ⟨0x2105, 2, 6, 6, .u32, .rw, false, 0, [(0, 4294967295)], .none, .staged⟩,
  ⟨0x2105, 2, 7, 7, .u16, .rw, false, 0, [(0, 4094)], .value 0, .staged⟩,
  ⟨0x2105, 2, 8, 8, .u8, .rw, false, 3, [(2, 10)], .nearest, .staged⟩,
  ⟨0x2105, 2, 9, 9, .i32, .rw, false, 0, [(-10240000, 10240000)], .nearest, .staged⟩,
  ⟨0x2105, 2, 10, 10, .u8, .rw, false, 0, [(0, 1)], .value 0, .staged⟩,
  ⟨0x2107, 1, 1, 1, .bool, .rw, false, 0, [(0, 1)], .none, .staged⟩,
  ⟨0x2107, 1, 2, 2, .u8, .rw, false, 0, [(0, 1)], .value 0, .staged⟩,
  ⟨0x2107, 1, 3, 3, .u8, .rw, false, 3, [(0, 3)], .value 3, .staged⟩,
  ⟨0x2108, 1, 1, 1, .bool, .rw, false, 0, [(0, 1)], .none, .staged⟩,
  ⟨0x2108, 1, 2, 2, .u16, .rw, false, 64, [(8, 1024)], .nearest, .staged⟩,
  ⟨0x2110, 16, 1, 1, .u8, .rw, false, 0, [(0, 2)], .value 0, .arm⟩,
  ⟨0x2110, 16, 2, 2, .time, .rw, false, 0, [(0, 18446744073709551615)], .none, .arm⟩,
  ⟨0x2110, 16, 3, 3, .u64, .rw, false, 1024000000000, [(32768, 1125899906842624)], .nearest, .arm⟩,
  ⟨0x2110, 16, 4, 4, .u32, .rw, false, 10240000, [(8192, 4294967295)], .nearest, .arm⟩,
  ⟨0x2110, 16, 5, 5, .u32, .rw, false, 0, [(0, 4294967295)], .none, .arm⟩,
  ⟨0x2110, 16, 6, 6, .u8, .rw, false, 1, [(0, 15)], .mask 15, .arm⟩,
  ⟨0x2110, 16, 7, 7, .u8, .rw, false, 0, [(0, 63)], .value 63, .arm⟩,
  ⟨0x2110, 16, 8, 8, .bool, .rw, false, 0, [(0, 1)], .none, .arm⟩,
  ⟨0x2110, 16, 9, 9, .bool, .wo, false, 0, [(1, 1)], .ignored, .arm⟩,
  ⟨0x3102, 1, 1, 1, .u16, .rw, true, 256, [(1, 4096)], .nearest, .staged⟩,
  ⟨0x3102, 1, 2, 2, .u16, .rw, true, 8, [(0, 1024)], .value 1024, .staged⟩,
  ⟨0x3102, 1, 3, 3, .u32, .rw, true, 109951163, [(1099512, 219902326)], .nearest, .staged⟩,
  ⟨0x3102, 1, 4, 4, .u32, .rw, true, 20480, [(1024, 1024000)], .nearest, .staged⟩,
  ⟨0x3102, 1, 5, 5, .u8, .rw, true, 16, [(1, 255)], .value 1, .staged⟩,
  ⟨0x3102, 1, 6, 6, .u8, .rw, true, 16, [(1, 255)], .value 1, .staged⟩,
  ⟨0x3105, 2, 1, 1, .i32, .rw, true, 0, [(-102400, 102400)], .nearest, .staged⟩,
  ⟨0x3105, 2, 2, 2, .i32, .rw, true, 0, [(-102400, 102400)], .nearest, .staged⟩,
  ⟨0x5100, 1, 1, 1, .u8, .ro, false, 0, [(0, 255)], .none, .none⟩,
  ⟨0x5100, 1, 2, 2, .u8, .ro, false, 0, [(0, 255)], .none, .none⟩]

/-- Rows of the object tables, part 2 (R72 to R108). -/
def objRows2 : List ObjRow := [
  ⟨0x5100, 1, 3, 3, .i64, .ro, false, 0, [(-9223372036854775808, 9223372036854775807)], .none, .none⟩,
  ⟨0x5100, 1, 4, 4, .i32, .ro, false, 0, [(-2147483648, 2147483647)], .none, .none⟩,
  ⟨0x5100, 1, 5, 5, .u8, .ro, false, 0, [(0, 255)], .none, .none⟩,
  ⟨0x5100, 1, 6, 6, .u32, .ro, false, 0, [(0, 4294967295)], .none, .none⟩,
  ⟨0x5100, 1, 7, 7, .i16, .ro, false, 0, [(-32768, 32767)], .none, .none⟩,
  ⟨0x5100, 1, 8, 8, .u64, .ro, false, 0, [(0, 18446744073709551615)], .none, .none⟩,
  ⟨0x5100, 1, 9, 9, .i64, .ro, false, 0, [(-9223372036854775808, 9223372036854775807)], .none, .none⟩,
  ⟨0x5100, 1, 10, 10, .u32, .ro, false, 0, [(0, 4294967295)], .none, .none⟩,
  ⟨0x5100, 1, 11, 11, .u32, .ro, false, 0, [(0, 4294967295)], .none, .none⟩,
  ⟨0x5100, 1, 12, 12, .u32, .ro, false, 0, [(0, 4294967295)], .none, .none⟩,
  ⟨0x5110, 16, 1, 1, .u8, .ro, false, 0, [(0, 255)], .none, .none⟩,
  ⟨0x5110, 16, 2, 2, .u32, .ro, false, 0, [(0, 4294967295)], .none, .none⟩,
  ⟨0x5110, 16, 3, 3, .time, .ro, false, 0, [(0, 18446744073709551615)], .none, .none⟩,
  ⟨0x5110, 16, 4, 4, .u32, .ro, false, 0, [(0, 4294967295)], .none, .none⟩,
  ⟨0x2200, 1, 1, 6, .u32, .rw, false, 4294967295, [(0, 4294967295)], .none, .staged⟩,
  ⟨0x2201, 1, 0, 0, .u32, .rw, false, 60, [(0, 86400)], .nearest, .staged⟩,
  ⟨0x2202, 1, 0, 0, .u8, .rw, false, 8, [(1, 64)], .nearest, .staged⟩,
  ⟨0x2203, 1, 0, 0, .u16, .rw, false, 64, [(1, 1024)], .nearest, .staged⟩,
  ⟨0x3200, 1, 1, 1, .u16, .rw, true, 2000, [(100, 20000)], .nearest, .staged⟩,
  ⟨0x3200, 1, 2, 2, .u16, .rw, true, 1000, [(10, 20000)], .nearest, .staged⟩,
  ⟨0x3200, 1, 3, 3, .u16, .rw, true, 4000, [(100, 20000)], .nearest, .staged⟩,
  ⟨0x4000, 192, 1, 1, .u8, .rw, false, 0, [(0, 2)], .value 0, .staged⟩,
  ⟨0x4000, 192, 2, 2, .u8, .rw, false, 0, [(0, 3)], .value 0, .staged⟩,
  ⟨0x4000, 192, 3, 3, .u8, .rw, false, 0, [(0, 1)], .value 0, .staged⟩,
  ⟨0x4000, 192, 4, 4, .u64, .wo, false, 0, [(0, 18446744073709551615)], .refused, .now⟩,
  ⟨0x4000, 192, 5, 5, .bool, .wo, false, 0, [(1, 1)], .ignored, .now⟩,
  ⟨0x4000, 192, 16, 16, .u8, .ro, false, 0, [(0, 255)], .none, .none⟩,
  ⟨0x4000, 192, 17, 17, .u8, .ro, false, 0, [(0, 255)], .none, .none⟩,
  ⟨0x4000, 192, 18, 18, .u16, .ro, false, 0, [(0, 65535)], .none, .none⟩,
  ⟨0x4000, 192, 19, 19, .u8, .ro, false, 0, [(0, 255)], .none, .none⟩,
  ⟨0x4000, 192, 20, 20, .u32, .ro, false, 0, [(0, 4294967295)], .none, .none⟩,
  ⟨0x4000, 192, 21, 21, .u64, .ro, false, 0, [(0, 18446744073709551615)], .none, .none⟩,
  ⟨0x4000, 192, 22, 22, .u32, .ro, false, 0, [(0, 4294967295)], .none, .none⟩,
  ⟨0x4000, 192, 23, 23, .u32, .ro, false, 0, [(0, 4294967295)], .none, .none⟩,
  ⟨0x4000, 192, 24, 24, .u32, .ro, false, 0, [(0, 4294967295)], .none, .none⟩,
  ⟨0x4000, 192, 25, 25, .u32, .ro, false, 0, [(0, 4294967295)], .none, .none⟩,
  ⟨0x4000, 192, 26, 26, .u32, .ro, false, 0, [(0, 4294967295)], .none, .none⟩,
  ⟨0x4000, 192, 27, 27, .u32, .ro, false, 0, [(0, 4294967295)], .none, .none⟩,
  ⟨0x4000, 192, 28, 28, .u32, .ro, false, 0, [(0, 4294967295)], .none, .none⟩,
  ⟨0x4000, 192, 29, 29, .u32, .ro, false, 0, [(0, 4294967295)], .none, .none⟩,
  ⟨0x4000, 192, 30, 30, .u32, .ro, false, 0, [(0, 4294967295)], .none, .none⟩,
  ⟨0x4000, 192, 31, 31, .u32, .ro, false, 0, [(0, 4294967295)], .none, .none⟩,
  ⟨0x4000, 192, 32, 32, .u64, .ro, false, 0, [(0, 18446744073709551615)], .none, .none⟩,
  ⟨0x4000, 192, 33, 33, .u64, .ro, false, 0, [(0, 18446744073709551615)], .none, .none⟩,
  ⟨0x4000, 192, 34, 34, .i16, .ro, false, 0, [(-32768, 32767)], .none, .none⟩]

/-- Rows of the object tables, part 3 (R108 to R158). -/
def objRows3 : List ObjRow := [
  ⟨0x4000, 192, 35, 35, .u64, .ro, false, 0, [(0, 18446744073709551615)], .none, .none⟩,
  ⟨0x4000, 192, 36, 36, .u8, .ro, false, 0, [(0, 255)], .none, .none⟩,
  ⟨0x4000, 192, 37, 37, .u8, .ro, false, 0, [(0, 255)], .none, .none⟩,
  ⟨0x4000, 192, 38, 38, .bool, .ro, false, 0, [(0, 1)], .none, .none⟩,
  ⟨0x4000, 192, 39, 39, .u32, .ro, false, 0, [(0, 4294967295)], .none, .none⟩,
  ⟨0x4000, 192, 40, 40, .u32, .ro, false, 0, [(0, 4294967295)], .none, .none⟩,
  ⟨0x4000, 192, 41, 41, .u32, .ro, false, 0, [(0, 4294967295)], .none, .none⟩,
  ⟨0x2300, 1, 0, 0, .u16, .rw, false, 1024, [(4, 4096)], .nearest, .staged⟩,
  ⟨0x2301, 1, 0, 0, .u16, .rw, false, 8, [(1, 512)], .nearest, .staged⟩,
  ⟨0x3300, 1, 1, 1, .u8, .rw, true, 2, [(1, 16)], .nearest, .staged⟩,
  ⟨0x3300, 1, 2, 2, .u8, .rw, true, 6, [(0, 12)], .nearest, .staged⟩,
  ⟨0x3300, 1, 3, 3, .u8, .rw, true, 16, [(4, 32)], .nearest, .staged⟩,
  ⟨0x3300, 1, 4, 4, .u32, .rw, true, 4096, [(160, 1048576)], .nearest, .staged⟩,
  ⟨0x3300, 1, 5, 5, .u8, .rw, true, 16, [(1, 255)], .nearest, .staged⟩,
  ⟨0x3300, 1, 6, 6, .u16, .rw, true, 64, [(1, 16384)], .nearest, .staged⟩,
  ⟨0x3300, 1, 7, 7, .u16, .rw, true, 64, [(0, 65535)], .none, .staged⟩,
  ⟨0x4000, 192, 6, 6, .u8, .rw, false, 0, [(0, 1)], .value 0, .staged⟩,
  ⟨0x4000, 192, 7, 7, .i32, .rw, false, 0, [(-16384000, 16384000)], .nearest, .staged⟩,
  ⟨0x4000, 192, 8, 8, .u32, .rw, false, 0, [(0, 163840000)], .nearest, .staged⟩,
  ⟨0x4000, 192, 42, 42, .u8, .ro, false, 0, [(0, 255)], .none, .none⟩,
  ⟨0x4000, 192, 43, 43, .u32, .ro, false, 0, [(0, 4294967295)], .none, .none⟩,
  ⟨0x4000, 192, 44, 44, .u32, .ro, false, 0, [(0, 4294967295)], .none, .none⟩,
  ⟨0x4000, 192, 45, 45, .u32, .ro, false, 0, [(0, 4294967295)], .none, .none⟩,
  ⟨0x4000, 192, 46, 46, .u32, .ro, false, 0, [(0, 4294967295)], .none, .none⟩,
  ⟨0x4000, 192, 47, 47, .u32, .ro, false, 0, [(0, 4294967295)], .none, .none⟩,
  ⟨0x4000, 192, 48, 48, .u32, .ro, false, 0, [(0, 4294967295)], .none, .none⟩,
  ⟨0x4000, 192, 49, 49, .u32, .ro, false, 0, [(0, 4294967295)], .none, .none⟩,
  ⟨0x4000, 192, 50, 50, .u32, .ro, false, 0, [(0, 4294967295)], .none, .none⟩,
  ⟨0x4000, 192, 51, 51, .u32, .ro, false, 0, [(0, 4294967295)], .none, .none⟩,
  ⟨0x4000, 192, 52, 52, .u32, .ro, false, 0, [(0, 4294967295)], .none, .none⟩,
  ⟨0x4000, 192, 53, 53, .u32, .ro, false, 0, [(0, 4294967295)], .none, .none⟩,
  ⟨0x2400, 1, 0, 0, .u8, .rw, false, 32, [(4, 128)], .nearest, .staged⟩,
  ⟨0x2401, 1, 1, 1, .u32, .rw, false, 256, [(64, 16384)], .nearest, .staged⟩,
  ⟨0x2401, 1, 2, 2, .u32, .rw, false, 128, [(48, 8192)], .nearest, .staged⟩,
  ⟨0x2401, 1, 3, 3, .u32, .rw, false, 32, [(32, 4096)], .nearest, .staged⟩,
  ⟨0x2401, 1, 4, 4, .u32, .rw, false, 64, [(16, 4096)], .nearest, .staged⟩,
  ⟨0x2401, 1, 5, 5, .u8, .rw, false, 75, [(50, 95)], .nearest, .staged⟩,
  ⟨0x2401, 1, 6, 6, .u8, .rw, false, 90, [(60, 98)], .nearest, .staged⟩,
  ⟨0x2401, 1, 7, 7, .u8, .rw, false, 75, [(50, 100)], .nearest, .staged⟩,
  ⟨0x2401, 1, 8, 8, .u16, .rw, false, 64, [(8, 4096)], .nearest, .staged⟩,
  ⟨0x3400, 1, 1, 1, .u16, .rw, true, 512, [(0, 4096)], .nearest, .staged⟩,
  ⟨0x3400, 1, 2, 2, .u8, .rw, true, 64, [(8, 255)], .nearest, .staged⟩,
  ⟨0x5400, 1, 1, 11, .u64, .ro, false, 0, [(0, 18446744073709551615)], .none, .none⟩,
  ⟨0x5401, 1, 1, 1, .u32, .ro, false, 0, [(0, 4294967295)], .none, .none⟩,
  ⟨0x5401, 1, 2, 2, .u32, .ro, false, 0, [(0, 4294967295)], .none, .none⟩]

/-- Rows of the object tables, part 4 (R158 to R185). -/
def objRows4 : List ObjRow := [
  ⟨0x5401, 1, 3, 3, .u32, .ro, false, 0, [(0, 4294967295)], .none, .none⟩,
  ⟨0x5401, 1, 4, 4, .u32, .ro, false, 0, [(0, 4294967295)], .none, .none⟩,
  ⟨0x5401, 1, 5, 5, .bool, .ro, false, 0, [(0, 1)], .none, .none⟩,
  ⟨0x5401, 1, 6, 6, .u32, .ro, false, 0, [(0, 4294967295)], .none, .none⟩,
  ⟨0x5402, 1, 1, 1, .u64, .ro, false, 0, [(0, 18446744073709551615)], .none, .none⟩,
  ⟨0x5402, 1, 2, 2, .u64, .ro, false, 0, [(0, 18446744073709551615)], .none, .none⟩,
  ⟨0x5402, 1, 3, 3, .u64, .ro, false, 0, [(0, 18446744073709551615)], .none, .none⟩,
  ⟨0x5402, 1, 4, 4, .u64, .ro, false, 0, [(0, 18446744073709551615)], .none, .none⟩,
  ⟨0x5402, 1, 5, 5, .u64, .ro, false, 0, [(0, 18446744073709551615)], .none, .none⟩,
  ⟨0x5402, 1, 6, 6, .u32, .ro, false, 0, [(0, 4294967295)], .none, .none⟩,
  ⟨0x5402, 1, 7, 7, .u32, .ro, false, 0, [(0, 4294967295)], .none, .none⟩,
  ⟨0x5402, 1, 8, 8, .u32, .ro, false, 0, [(0, 4294967295)], .none, .none⟩,
  ⟨0x5402, 1, 9, 9, .bool, .ro, false, 0, [(0, 1)], .none, .none⟩,
  ⟨0x5402, 1, 10, 10, .u32, .ro, false, 0, [(0, 4294967295)], .none, .none⟩,
  ⟨0x5402, 1, 11, 11, .time, .ro, false, 0, [(0, 18446744073709551615)], .none, .none⟩,
  ⟨0x5402, 1, 12, 12, .u32, .ro, false, 0, [(0, 4294967295)], .none, .none⟩,
  ⟨0x5403, 1, 1, 1, .u8, .ro, false, 0, [(0, 255)], .none, .none⟩,
  ⟨0x5403, 1, 2, 2, .u32, .ro, false, 0, [(0, 4294967295)], .none, .none⟩,
  ⟨0x5403, 1, 3, 3, .u32, .ro, false, 0, [(0, 4294967295)], .none, .none⟩,
  ⟨0x5403, 1, 4, 4, .u32, .ro, false, 0, [(0, 4294967295)], .none, .none⟩,
  ⟨0x5403, 1, 5, 5, .u64, .ro, false, 0, [(0, 18446744073709551615)], .none, .none⟩,
  ⟨0x5403, 1, 6, 6, .u64, .ro, false, 0, [(0, 18446744073709551615)], .none, .none⟩,
  ⟨0x5403, 1, 7, 7, .u64, .ro, false, 0, [(0, 18446744073709551615)], .none, .none⟩,
  ⟨0x5403, 1, 8, 8, .u64, .ro, false, 0, [(0, 18446744073709551615)], .none, .none⟩,
  ⟨0x5403, 1, 9, 9, .u8, .ro, false, 0, [(0, 255)], .none, .none⟩,
  ⟨0x2502, 1, 0, 0, .domain, .wo, false, 0, [(0, 0)], .refused, .now⟩,
  ⟨0x2503, 1, 1, 1, .bool, .rw, false, 0, [(0, 1)], .none, .staged⟩,
  ⟨0x2503, 1, 2, 2, .u32, .rw, false, 0, [(0, 0), (3758096384, 4026531839)], .value 0, .staged⟩,
  ⟨0x2503, 1, 3, 3, .u32, .rw, false, 10000, [(100, 1000000)], .nearest, .staged⟩,
  ⟨0x2510, 16, 1, 1, .bool, .rw, false, 0, [(0, 1)], .none, .staged⟩,
  ⟨0x2510, 16, 2, 7, .u32, .rw, false, 0, [(0, 4294967295)], .none, .staged⟩,
  ⟨0x2510, 16, 8, 8, .u16, .rw, false, 0, [(0, 4095)], .nearest, .staged⟩,
  ⟨0x2510, 16, 9, 9, .u16, .rw, false, 4095, [(0, 4095)], .nearest, .staged⟩,
  ⟨0x2510, 16, 10, 10, .u32, .rw, false, 25600, [(1, 1048576)], .nearest, .staged⟩,
  ⟨0x2510, 16, 11, 11, .u16, .rw, false, 4, [(1, 1024)], .nearest, .staged⟩,
  ⟨0x2510, 16, 12, 12, .u8, .rw, false, 0, [(0, 1)], .value 0, .staged⟩,
  ⟨0x2510, 16, 13, 13, .u32, .rw, false, 1048576, [(1, 4294967295)], .value 1, .staged⟩,
  ⟨0x2510, 16, 14, 14, .u8, .rw, false, 0, [(0, 63)], .value 63, .staged⟩,
  ⟨0x2510, 16, 15, 15, .bool, .rw, false, 0, [(0, 1)], .none, .staged⟩,
  ⟨0x3500, 1, 1, 8, .domain, .wo, true, 0, [(0, 0)], .refused, .staged⟩,
  ⟨0x3501, 1, 0, 0, .u8, .rw, true, 0, [(0, 255)], .none, .staged⟩,
  ⟨0x4200, 64, 1, 1, .bool, .rw, false, 0, [(0, 1)], .none, .staged⟩,
  ⟨0x4200, 64, 2, 2, .u8, .rw, false, 63, [(0, 63)], .mask 63, .staged⟩,
  ⟨0x4200, 64, 3, 3, .u64, .rw, false, 0, [(0, 1099511627775)], .nearest, .staged⟩,
  ⟨0x4200, 64, 4, 4, .u64, .rw, false, 1048576, [(1, 68719476736)], .nearest, .staged⟩]

/-- Rows of the object tables, part 5 (R185 to R216). -/
def objRows5 : List ObjRow := [
  ⟨0x4200, 64, 5, 5, .u32, .rw, false, 1, [(1, 4294967295)], .value 1, .staged⟩,
  ⟨0x4200, 64, 6, 6, .u32, .rw, false, 0, [(0, 1073741824)], .nearest, .staged⟩,
  ⟨0x4200, 64, 7, 7, .bool, .rw, false, 0, [(0, 1)], .none, .staged⟩,
  ⟨0x4200, 64, 8, 8, .u8, .rw, false, 0, [(0, 255)], .none, .staged⟩,
  ⟨0x4200, 64, 16, 16, .u64, .ro, false, 0, [(0, 18446744073709551615)], .none, .none⟩,
  ⟨0x4200, 64, 17, 17, .u32, .ro, false, 0, [(0, 4294967295)], .none, .none⟩,
  ⟨0x4200, 64, 18, 18, .u64, .ro, false, 0, [(0, 18446744073709551615)], .none, .none⟩,
  ⟨0x4200, 64, 19, 19, .u64, .ro, false, 0, [(0, 18446744073709551615)], .none, .none⟩,
  ⟨0x4200, 64, 20, 20, .u64, .ro, false, 0, [(0, 18446744073709551615)], .none, .none⟩,
  ⟨0x4200, 64, 21, 21, .u64, .ro, false, 0, [(0, 18446744073709551615)], .none, .none⟩,
  ⟨0x4200, 64, 22, 22, .u32, .ro, false, 0, [(0, 4294967295)], .none, .none⟩,
  ⟨0x4200, 64, 23, 23, .u32, .ro, false, 0, [(0, 4294967295)], .none, .none⟩,
  ⟨0x4200, 64, 24, 24, .u32, .ro, false, 0, [(0, 4294967295)], .none, .none⟩,
  ⟨0x4200, 64, 25, 25, .u32, .ro, false, 0, [(0, 4294967295)], .none, .none⟩,
  ⟨0x4200, 64, 26, 26, .u32, .ro, false, 0, [(0, 4294967295)], .none, .none⟩,
  ⟨0x4200, 64, 27, 27, .u64, .ro, false, 0, [(0, 18446744073709551615)], .none, .none⟩,
  ⟨0x4200, 64, 28, 28, .u32, .ro, false, 0, [(0, 4294967295)], .none, .none⟩,
  ⟨0x4200, 64, 29, 29, .u16, .ro, false, 0, [(0, 65535)], .none, .none⟩,
  ⟨0x4200, 64, 30, 30, .u32, .ro, false, 0, [(0, 4294967295)], .none, .none⟩,
  ⟨0x4200, 64, 31, 31, .u32, .ro, false, 0, [(0, 4294967295)], .none, .none⟩,
  ⟨0x5500, 1, 1, 1, .u16, .ro, false, 0, [(0, 65535)], .none, .none⟩,
  ⟨0x5500, 1, 2, 2, .u64, .ro, false, 0, [(0, 18446744073709551615)], .none, .none⟩,
  ⟨0x5500, 1, 3, 3, .u32, .ro, false, 0, [(0, 4294967295)], .none, .none⟩,
  ⟨0x5500, 1, 4, 4, .u32, .ro, false, 0, [(0, 4294967295)], .none, .none⟩,
  ⟨0x5500, 1, 5, 5, .u32, .ro, false, 0, [(0, 4294967295)], .none, .none⟩,
  ⟨0x5500, 1, 6, 6, .u32, .ro, false, 0, [(0, 4294967295)], .none, .none⟩,
  ⟨0x5500, 1, 7, 7, .u32, .ro, false, 0, [(0, 4294967295)], .none, .none⟩,
  ⟨0x5500, 1, 8, 8, .u8, .ro, false, 0, [(0, 255)], .none, .none⟩,
  ⟨0x5500, 1, 9, 9, .u16, .ro, false, 0, [(0, 65535)], .none, .none⟩,
  ⟨0x5500, 1, 10, 10, .u8, .ro, false, 0, [(0, 255)], .none, .none⟩,
  ⟨0x5500, 1, 11, 11, .u32, .ro, false, 0, [(0, 4294967295)], .none, .none⟩,
  ⟨0x5500, 1, 12, 12, .u16, .ro, false, 0, [(0, 65535)], .none, .none⟩,
  ⟨0x5510, 16, 1, 1, .u32, .ro, false, 0, [(0, 4294967295)], .none, .none⟩,
  ⟨0x5510, 16, 2, 2, .u32, .ro, false, 0, [(0, 4294967295)], .none, .none⟩,
  ⟨0x2600, 1, 0, 0, .u32, .rw, false, 0, [(0, 16777215)], .mask 16777215, .staged⟩,
  ⟨0x2601, 1, 1, 24, .u8, .rw, false, 0, [(0, 3)], .value 0, .staged⟩,
  ⟨0x2602, 1, 1, 4, .domain, .wo, false, 0, [(0, 0)], .refused, .now⟩,
  ⟨0x2603, 1, 0, 0, .u32, .rw, false, 0, [(0, 16777215)], .mask 16777215, .staged⟩,
  ⟨0x2604, 1, 1, 24, .u16, .rw, false, 64, [(16, 1536)], .nearest, .staged⟩,
  ⟨0x2605, 1, 1, 24, .u8, .rw, false, 4, [(1, 32)], .nearest, .staged⟩,
  ⟨0x3600, 1, 0, 0, .u16, .rw, true, 1536, [(256, 1536)], .nearest, .staged⟩,
  ⟨0x4000, 192, 9, 9, .u8, .rw, false, 0, [(0, 2)], .value 0, .staged⟩,
  ⟨0x4000, 192, 54, 54, .u32, .ro, false, 0, [(0, 4294967295)], .none, .none⟩,
  ⟨0x4000, 192, 55, 55, .u32, .ro, false, 0, [(0, 4294967295)], .none, .none⟩,
  ⟨0x5600, 1, 1, 1, .u16, .ro, false, 0, [(0, 65535)], .none, .none⟩]

/-- Rows of the object tables, part 6 (R216 to R298). -/
def objRows6 : List ObjRow := [
  ⟨0x5600, 1, 2, 2, .u8, .ro, false, 0, [(0, 255)], .none, .none⟩,
  ⟨0x5601, 1, 1, 4, .u32, .ro, false, 0, [(0, 4294967295)], .none, .none⟩,
  ⟨0x5610, 24, 1, 1, .u8, .ro, false, 0, [(0, 255)], .none, .none⟩,
  ⟨0x5610, 24, 2, 2, .u32, .ro, false, 0, [(0, 4294967295)], .none, .none⟩,
  ⟨0x5610, 24, 3, 3, .u64, .ro, false, 0, [(0, 18446744073709551615)], .none, .none⟩,
  ⟨0x5610, 24, 4, 4, .u32, .ro, false, 0, [(0, 4294967295)], .none, .none⟩,
  ⟨0x5610, 24, 5, 5, .u32, .ro, false, 0, [(0, 4294967295)], .none, .none⟩,
  ⟨0x5610, 24, 6, 6, .u8, .ro, false, 0, [(0, 255)], .none, .none⟩,
  ⟨0x5610, 24, 7, 7, .u16, .ro, false, 0, [(0, 65535)], .none, .none⟩,
  ⟨0x5610, 24, 8, 8, .u32, .ro, false, 0, [(0, 4294967295)], .none, .none⟩,
  ⟨0x5610, 24, 9, 9, .u32, .ro, false, 0, [(0, 4294967295)], .none, .none⟩,
  ⟨0x5610, 24, 10, 10, .u16, .ro, false, 0, [(0, 65535)], .none, .none⟩,
  ⟨0x5610, 24, 11, 11, .u16, .ro, false, 0, [(0, 65535)], .none, .none⟩,
  ⟨0x5610, 24, 12, 12, .u64, .ro, false, 0, [(0, 18446744073709551615)], .none, .none⟩,
  ⟨0x5610, 24, 13, 13, .u64, .ro, false, 0, [(0, 18446744073709551615)], .none, .none⟩,
  ⟨0x5610, 24, 14, 14, .u32, .ro, false, 0, [(0, 4294967295)], .none, .none⟩,
  ⟨0x5610, 24, 15, 15, .u64, .ro, false, 0, [(0, 18446744073709551615)], .none, .none⟩,
  ⟨0x5610, 24, 16, 16, .u32, .ro, false, 0, [(0, 4294967295)], .none, .none⟩,
  ⟨0x2700, 1, 0, 0, .u16, .rw, false, 0, [(0, 2047)], .value 2047, .now⟩,
  ⟨0x3700, 1, 1, 1, .bool, .rw, true, 0, [(0, 1)], .none, .now⟩,
  ⟨0x3700, 1, 2, 2, .u8, .rw, true, 0, [(0, 191)], .nearest, .now⟩,
  ⟨0x3700, 1, 3, 3, .bool, .rw, true, 1, [(0, 1)], .none, .now⟩,
  ⟨0x5700, 1, 1, 1, .u8, .ro, false, 0, [(0, 255)], .none, .none⟩,
  ⟨0x5700, 1, 2, 2, .u8, .ro, false, 0, [(0, 255)], .none, .none⟩,
  ⟨0x5700, 1, 3, 3, .u64, .ro, false, 0, [(0, 18446744073709551615)], .none, .none⟩,
  ⟨0x5700, 1, 4, 4, .u64, .ro, false, 0, [(0, 18446744073709551615)], .none, .none⟩,
  ⟨0x5700, 1, 5, 5, .u64, .ro, false, 0, [(0, 18446744073709551615)], .none, .none⟩,
  ⟨0x5700, 1, 6, 6, .u32, .ro, false, 0, [(0, 4294967295)], .none, .none⟩,
  ⟨0x5700, 1, 7, 7, .u32, .ro, false, 0, [(0, 4294967295)], .none, .none⟩,
  ⟨0x5700, 1, 8, 8, .u64, .ro, false, 0, [(0, 18446744073709551615)], .none, .none⟩,
  ⟨0x5700, 1, 9, 9, .u32, .ro, false, 0, [(0, 4294967295)], .none, .none⟩,
  ⟨0x5700, 1, 10, 10, .u32, .ro, false, 0, [(0, 4294967295)], .none, .none⟩,
  ⟨0x5700, 1, 11, 11, .u8, .ro, false, 0, [(0, 255)], .none, .none⟩,
  ⟨0x1010, 1, 1, 8, .u64, .ro, false, 0, [(0, 18446744073709551615)], .none, .none⟩,
  ⟨0x1010, 1, 9, 16, .u32, .ro, false, 0, [(0, 4294967295)], .none, .none⟩,
  ⟨0x1011, 1, 0, 0, .u16, .rw, false, 10, [(1, 3600)], .nearest, .now⟩,
  ⟨0x1020, 1, 1, 1, .u16, .ro, false, 0, [(0, 65535)], .none, .none⟩,
  ⟨0x1020, 1, 2, 2, .u32, .ro, false, 0, [(0, 4294967295)], .none, .none⟩,
  ⟨0x1021, 1, 0, 0, .domain, .ro, false, 0, [(0, 0)], .none, .none⟩,
  ⟨0x1030, 1, 1, 1, .u8, .ro, false, 0, [(0, 255)], .none, .none⟩,
  ⟨0x1030, 1, 2, 2, .u64, .ro, false, 0, [(0, 18446744073709551615)], .none, .none⟩,
  ⟨0x1030, 1, 3, 3, .u32, .ro, false, 0, [(0, 4294967295)], .none, .none⟩,
  ⟨0x1030, 1, 4, 4, .u8, .rw, false, 255, [(0, 7), (255, 255)], .refused, .now⟩,
  ⟨0x1030, 1, 5, 5, .bool, .wo, false, 0, [(1, 1)], .ignored, .now⟩,
  ⟨0x1030, 1, 6, 6, .bool, .wo, false, 0, [(1, 1)], .ignored, .now⟩]

/-- Rows of the object tables, part 7 (R298 to R310). -/
def objRows7 : List ObjRow := [
  ⟨0x1030, 1, 7, 7, .u8, .ro, false, 0, [(0, 255)], .none, .none⟩,
  ⟨0x1031, 1, 0, 0, .time, .wo, false, 0, [(0, 18446744073709551615)], .none, .now⟩,
  ⟨0x1032, 1, 1, 1, .u32, .ro, false, 0, [(0, 4294967295)], .none, .none⟩,
  ⟨0x1032, 1, 2, 33, .domain, .ro, false, 0, [(0, 0)], .none, .none⟩,
  ⟨0x1033, 1, 0, 0, .u64, .ro, false, 0, [(0, 18446744073709551615)], .none, .none⟩,
  ⟨0x1040, 1, 1, 1, .bool, .wo, false, 0, [(1, 1)], .ignored, .now⟩,
  ⟨0x1040, 1, 2, 2, .u8, .ro, false, 0, [(0, 255)], .none, .none⟩,
  ⟨0x1040, 1, 3, 3, .u32, .ro, false, 0, [(0, 4294967295)], .none, .none⟩,
  ⟨0x1040, 1, 4, 4, .u64, .ro, false, 0, [(0, 18446744073709551615)], .none, .none⟩,
  ⟨0x1041, 1, 0, 0, .u8, .wo, false, 0, [(1, 2)], .refused, .now⟩,
  ⟨0x1050, 1, 0, 0, .u16, .wo, false, 0, [(0, 65535)], .none, .now⟩,
  ⟨0x1100, 1, 1, 1, .u8, .ro, false, 0, [(0, 255)], .none, .none⟩,
  ⟨0x1100, 1, 2, 2, .u8, .rw, true, 0, [(0, 1)], .value 0, .now⟩,
  ⟨0x1100, 1, 3, 3, .u32, .ro, false, 0, [(0, 4294967295)], .none, .none⟩,
  ⟨0x1100, 1, 4, 4, .u32, .ro, false, 0, [(0, 4294967295)], .none, .none⟩,
  ⟨0x1100, 1, 7, 7, .u8, .ro, false, 0, [(0, 255)], .none, .none⟩,
  ⟨0x1101, 1, 0, 0, .domain, .wo, true, 0, [(0, 0)], .refused, .now⟩,
  ⟨0x2002, 1, 1, 1, .u8, .rw, false, 1, [(0, 1)], .value 1, .boot⟩,
  ⟨0x2002, 1, 2, 2, .u8, .rw, false, 2, [(0, 2)], .value 2, .boot⟩,
  ⟨0x2002, 1, 3, 3, .u8, .rw, false, 1, [(0, 1)], .value 1, .boot⟩,
  ⟨0x2002, 1, 4, 4, .u8, .rw, false, 2, [(0, 2)], .value 2, .boot⟩,
  ⟨0x2002, 1, 5, 5, .u8, .ro, false, 0, [(0, 255)], .none, .none⟩,
  ⟨0x5000, 1, 1, 1, .u32, .ro, false, 0, [(0, 4294967295)], .none, .none⟩,
  ⟨0x5000, 1, 2, 2, .u32, .ro, false, 0, [(0, 4294967295)], .none, .none⟩,
  ⟨0x5000, 1, 3, 3, .u32, .ro, false, 0, [(0, 4294967295)], .none, .none⟩,
  ⟨0x5000, 1, 4, 4, .u32, .ro, false, 0, [(0, 4294967295)], .none, .none⟩,
  ⟨0x5000, 1, 5, 5, .u32, .ro, false, 0, [(0, 4294967295)], .none, .none⟩,
  ⟨0x5000, 1, 6, 6, .u32, .ro, false, 0, [(0, 4294967295)], .none, .none⟩,
  ⟨0x5000, 1, 7, 7, .u32, .ro, false, 0, [(0, 4294967295)], .none, .none⟩,
  ⟨0x5000, 1, 8, 8, .u32, .ro, false, 0, [(0, 4294967295)], .none, .none⟩,
  ⟨0x5000, 1, 9, 9, .u32, .ro, false, 0, [(0, 4294967295)], .none, .none⟩,
  ⟨0x5000, 1, 10, 10, .u32, .ro, false, 0, [(0, 4294967295)], .none, .none⟩,
  ⟨0x5000, 1, 11, 11, .u32, .ro, false, 0, [(0, 4294967295)], .none, .none⟩,
  ⟨0x5000, 1, 12, 12, .u32, .ro, false, 0, [(0, 4294967295)], .none, .none⟩,
  ⟨0x5000, 1, 13, 13, .u32, .ro, false, 0, [(0, 4294967295)], .none, .none⟩,
  ⟨0x5000, 1, 14, 14, .u32, .ro, false, 0, [(0, 4294967295)], .none, .none⟩,
  ⟨0x5000, 1, 15, 15, .u32, .ro, false, 0, [(0, 4294967295)], .none, .none⟩,
  ⟨0x1000, 1, 0, 0, .u32, .const, false, 1262682304, [(0, 4294967295)], .none, .none⟩,
  ⟨0x1001, 1, 1, 1, .u16, .const, false, 0, [(0, 65535)], .none, .none⟩,
  ⟨0x1001, 1, 2, 2, .u16, .const, false, 49554, [(0, 65535)], .none, .none⟩,
  ⟨0x1001, 1, 3, 3, .u16, .const, false, 0, [(0, 65535)], .none, .none⟩,
  ⟨0x1001, 1, 4, 4, .u16, .const, false, 0, [(0, 65535)], .none, .none⟩,
  ⟨0x1001, 1, 5, 5, .string, .const, false, 0, [(0, 0)], .none, .none⟩,
  ⟨0x1001, 1, 6, 6, .string, .const, false, 0, [(0, 0)], .none, .none⟩,
  ⟨0x1001, 1, 7, 7, .u64, .const, false, 0, [(0, 18446744073709551615)], .none, .none⟩]

/-- Rows of the object tables, part 8 (R310 to R363). -/
def objRows8 : List ObjRow := [
  ⟨0x1001, 1, 8, 8, .string, .const, false, 0, [(0, 0)], .none, .none⟩,
  ⟨0x1001, 1, 9, 9, .u32, .const, false, 0, [(0, 4294967295)], .none, .none⟩,
  ⟨0x1001, 1, 10, 10, .u32, .ro, false, 0, [(0, 4294967295)], .none, .none⟩,
  ⟨0x1001, 1, 11, 11, .u32, .const, false, 1, [(0, 4294967295)], .none, .none⟩,
  ⟨0x2800, 1, 0, 0, .u8, .ro, false, 0, [(0, 255)], .none, .none⟩,
  ⟨0x2801, 1, 0, 0, .u8, .wo, false, 0, [(1, 3)], .refused, .now⟩,
  ⟨0x2802, 1, 0, 0, .u8, .rw, false, 0, [(0, 1)], .value 0, .now⟩,
  ⟨0x2803, 1, 0, 0, .u64, .rw, false, 0, [(0, 18446744073709551615)], .none, .staged⟩,
  ⟨0x2804, 1, 0, 0, .u32, .rw, false, 50000, [(10000, 1000000)], .nearest, .staged⟩,
  ⟨0x2805, 1, 0, 0, .u16, .rw, false, 10, [(1, 100)], .nearest, .staged⟩,
  ⟨0x2806, 1, 0, 0, .u16, .rw, false, 30, [(0, 3650)], .nearest, .staged⟩,
  ⟨0x3800, 1, 1, 1, .u32, .rw, true, 3000, [(1100, 100000)], .nearest, .staged⟩,
  ⟨0x3800, 1, 2, 2, .u16, .rw, true, 64, [(16, 512)], .nearest, .staged⟩,
  ⟨0x3800, 1, 3, 3, .u32, .rw, true, 262144, [(65536, 16777216)], .nearest, .staged⟩,
  ⟨0x3800, 1, 4, 4, .u8, .rw, true, 15, [(0, 15)], .mask 15, .staged⟩,
  ⟨0x5800, 1, 1, 1, .u32, .ro, false, 0, [(0, 4294967295)], .none, .none⟩,
  ⟨0x5800, 1, 2, 2, .u32, .ro, false, 0, [(0, 4294967295)], .none, .none⟩,
  ⟨0x5800, 1, 3, 3, .u8, .ro, false, 0, [(0, 255)], .none, .none⟩,
  ⟨0x5800, 1, 4, 4, .u8, .ro, false, 0, [(0, 255)], .none, .none⟩,
  ⟨0x5800, 1, 5, 5, .u64, .ro, false, 0, [(0, 18446744073709551615)], .none, .none⟩,
  ⟨0x5800, 1, 6, 6, .u64, .ro, false, 0, [(0, 18446744073709551615)], .none, .none⟩,
  ⟨0x5800, 1, 7, 7, .u64, .ro, false, 0, [(0, 18446744073709551615)], .none, .none⟩,
  ⟨0x5800, 1, 8, 8, .u32, .ro, false, 0, [(0, 4294967295)], .none, .none⟩,
  ⟨0x5800, 1, 9, 9, .u64, .ro, false, 0, [(0, 18446744073709551615)], .none, .none⟩,
  ⟨0x5800, 1, 10, 10, .u32, .ro, false, 0, [(0, 4294967295)], .none, .none⟩,
  ⟨0x5800, 1, 11, 11, .u64, .ro, false, 0, [(0, 18446744073709551615)], .none, .none⟩,
  ⟨0x5800, 1, 12, 12, .u32, .ro, false, 0, [(0, 4294967295)], .none, .none⟩,
  ⟨0x5800, 1, 13, 13, .u32, .ro, false, 0, [(0, 4294967295)], .none, .none⟩,
  ⟨0x5800, 1, 14, 14, .u32, .ro, false, 0, [(0, 4294967295)], .none, .none⟩,
  ⟨0x5800, 1, 15, 15, .u32, .ro, false, 0, [(0, 4294967295)], .none, .none⟩,
  ⟨0x5800, 1, 16, 16, .u8, .ro, false, 0, [(0, 255)], .none, .none⟩,
  ⟨0x5800, 1, 17, 17, .u32, .ro, false, 0, [(0, 4294967295)], .none, .none⟩,
  ⟨0x5800, 1, 18, 18, .u32, .ro, false, 0, [(0, 4294967295)], .none, .none⟩,
  ⟨0x5800, 1, 19, 19, .u32, .ro, false, 0, [(0, 4294967295)], .none, .none⟩,
  ⟨0x5800, 1, 20, 20, .u64, .ro, false, 0, [(0, 18446744073709551615)], .none, .none⟩,
  ⟨0x5800, 1, 21, 21, .u64, .ro, false, 0, [(0, 18446744073709551615)], .none, .none⟩,
  ⟨0x5800, 1, 22, 22, .u32, .ro, false, 0, [(0, 4294967295)], .none, .none⟩,
  ⟨0x5800, 1, 23, 23, .u64, .ro, false, 0, [(0, 18446744073709551615)], .none, .none⟩,
  ⟨0x3900, 1, 1, 1, .u8, .rw, true, 0, [(0, 2)], .value 0, .staged⟩,
  ⟨0x5900, 1, 1, 1, .bool, .ro, false, 0, [(0, 1)], .none, .none⟩,
  ⟨0x5900, 1, 2, 2, .u32, .ro, false, 0, [(0, 4294967295)], .none, .none⟩,
  ⟨0x4100, 32, 1, 1, .u8, .rw, false, 0, [(0, 3)], .value 0, .staged⟩,
  ⟨0x4100, 32, 2, 2, .u8, .rw, false, 0, [(0, 1)], .value 0, .staged⟩,
  ⟨0x4100, 32, 3, 3, .bool, .rw, false, 1, [(0, 1)], .none, .staged⟩,
  ⟨0x4100, 32, 4, 4, .u8, .rw, false, 1, [(1, 3)], .value 1, .staged⟩]

/-- Rows of the object tables, part 9 (R363 to R388). -/
def objRows9 : List ObjRow := [
  ⟨0x4100, 32, 5, 5, .i32, .rw, false, 0, [(-10240000, 10240000)], .nearest, .staged⟩,
  ⟨0x4100, 32, 6, 6, .u8, .rw, false, 0, [(0, 31)], .nearest, .staged⟩,
  ⟨0x4100, 32, 7, 7, .u8, .rw, false, 2, [(1, 3)], .value 1, .staged⟩,
  ⟨0x4100, 32, 8, 8, .u64, .rw, false, 10240000, [(8192, 1099511627776)], .nearest, .staged⟩,
  ⟨0x4100, 32, 9, 9, .u32, .rw, false, 1, [(1, 65536)], .nearest, .staged⟩,
  ⟨0x4100, 32, 10, 10, .u32, .rw, false, 1024, [(1, 1048576)], .nearest, .staged⟩,
  ⟨0x4100, 32, 11, 11, .u8, .rw, false, 0, [(0, 2)], .value 0, .staged⟩,
  ⟨0x4100, 32, 12, 12, .u8, .rw, false, 0, [(0, 63)], .value 63, .staged⟩,
  ⟨0x4100, 32, 13, 13, .u64, .rw, false, 0, [(0, 1099511627776)], .nearest, .staged⟩,
  ⟨0x4100, 32, 14, 14, .u64, .rw, false, 1099511627776, [(1, 1099511627776)], .nearest, .staged⟩,
  ⟨0x4100, 32, 15, 15, .u8, .rw, false, 0, [(0, 20)], .nearest, .staged⟩,
  ⟨0x4100, 32, 16, 16, .u64, .ro, false, 0, [(0, 18446744073709551615)], .none, .none⟩,
  ⟨0x4100, 32, 17, 17, .u64, .ro, false, 0, [(0, 18446744073709551615)], .none, .none⟩,
  ⟨0x4100, 32, 18, 18, .u64, .ro, false, 0, [(0, 18446744073709551615)], .none, .none⟩,
  ⟨0x4100, 32, 19, 19, .u64, .ro, false, 0, [(0, 18446744073709551615)], .none, .none⟩,
  ⟨0x4100, 32, 20, 20, .u32, .ro, false, 0, [(0, 4294967295)], .none, .none⟩,
  ⟨0x4100, 32, 21, 21, .u64, .ro, false, 0, [(0, 18446744073709551615)], .none, .none⟩,
  ⟨0x4100, 32, 22, 22, .u32, .ro, false, 0, [(0, 4294967295)], .none, .none⟩,
  ⟨0x4100, 32, 23, 23, .u32, .ro, false, 0, [(0, 4294967295)], .none, .none⟩,
  ⟨0x4100, 32, 24, 24, .u32, .ro, false, 0, [(0, 4294967295)], .none, .none⟩,
  ⟨0x4100, 32, 25, 25, .u32, .ro, false, 0, [(0, 4294967295)], .none, .none⟩,
  ⟨0x4100, 32, 26, 26, .u8, .ro, false, 0, [(0, 255)], .none, .none⟩,
  ⟨0x4100, 32, 27, 27, .u32, .ro, false, 0, [(0, 4294967295)], .none, .none⟩,
  ⟨0x4100, 32, 28, 28, .u32, .ro, false, 0, [(0, 4294967295)], .none, .none⟩,
  ⟨0x2A00, 1, 1, 1, .u8, .rw, false, 0, [(0, 2)], .value 0, .staged⟩,
  ⟨0x2A00, 1, 2, 2, .u8, .rw, false, 1, [(1, 64)], .nearest, .staged⟩,
  ⟨0x2A00, 1, 3, 3, .u8, .rw, false, 1, [(1, 8)], .nearest, .staged⟩,
  ⟨0x2A00, 1, 4, 4, .bool, .rw, false, 0, [(0, 1)], .none, .staged⟩,
  ⟨0x2A00, 1, 5, 5, .u8, .rw, false, 0, [(0, 1)], .value 0, .staged⟩,
  ⟨0x2A00, 1, 6, 6, .u16, .rw, false, 10, [(1, 1000)], .nearest, .staged⟩,
  ⟨0x2A01, 1, 0, 0, .u8, .wo, false, 0, [(1, 3)], .refused, .now⟩,
  ⟨0x2A10, 72, 1, 1, .u8, .rw, false, 32, [(0, 39)], .value 32, .staged⟩,
  ⟨0x2A10, 72, 2, 2, .u8, .rw, false, 2, [(0, 10)], .nearest, .staged⟩,
  ⟨0x2A10, 72, 3, 3, .u16, .rw, false, 1000, [(4, 65535)], .value 4, .staged⟩,
  ⟨0x2A10, 72, 4, 4, .u16, .rw, false, 1, [(1, 1024)], .nearest, .staged⟩,
  ⟨0x2A60, 8, 1, 1, .u8, .rw, false, 0, [(0, 2)], .value 0, .staged⟩,
  ⟨0x2A60, 8, 2, 2, .u16, .rw, false, 2500, [(500, 4500)], .nearest, .staged⟩,
  ⟨0x2A60, 8, 3, 3, .u16, .rw, false, 100, [(10, 1000)], .nearest, .staged⟩,
  ⟨0x3A00, 1, 1, 1, .bool, .wo, true, 0, [(1, 1)], .ignored, .now⟩,
  ⟨0x5A00, 1, 1, 1, .bool, .ro, false, 0, [(0, 1)], .none, .none⟩,
  ⟨0x5A00, 1, 2, 2, .u8, .ro, false, 0, [(0, 255)], .none, .none⟩,
  ⟨0x5A00, 1, 3, 3, .u32, .ro, false, 0, [(0, 4294967295)], .none, .none⟩,
  ⟨0x5A00, 1, 4, 4, .u32, .ro, false, 0, [(0, 4294967295)], .none, .none⟩,
  ⟨0x5A00, 1, 5, 5, .u32, .ro, false, 0, [(0, 4294967295)], .none, .none⟩,
  ⟨0x5A00, 1, 6, 6, .u32, .ro, false, 0, [(0, 4294967295)], .none, .none⟩]

/-- Rows of the object tables, part 10 (R388 to R404). -/
def objRows10 : List ObjRow := [
  ⟨0x5A00, 1, 7, 7, .u32, .ro, false, 0, [(0, 4294967295)], .none, .none⟩,
  ⟨0x5A00, 1, 8, 8, .bool, .ro, false, 0, [(0, 1)], .none, .none⟩,
  ⟨0x5A00, 1, 9, 9, .u32, .ro, false, 0, [(0, 4294967295)], .none, .none⟩,
  ⟨0x5A00, 1, 10, 10, .u8, .ro, false, 0, [(0, 255)], .none, .none⟩,
  ⟨0x5A00, 1, 11, 11, .u32, .ro, false, 0, [(0, 4294967295)], .none, .none⟩,
  ⟨0x5A00, 1, 12, 12, .u32, .ro, false, 0, [(0, 4294967295)], .none, .none⟩,
  ⟨0x5A00, 1, 13, 13, .u32, .ro, false, 0, [(0, 4294967295)], .none, .none⟩,
  ⟨0x5A10, 8, 1, 3, .u64, .ro, false, 0, [(0, 18446744073709551615)], .none, .none⟩,
  ⟨0x4300, 32, 1, 1, .u8, .rw, false, 32, [(0, 32)], .value 32, .staged⟩,
  ⟨0x4300, 32, 2, 2, .u8, .rw, false, 8, [(0, 8)], .value 8, .staged⟩,
  ⟨0x4300, 32, 3, 3, .u8, .rw, false, 0, [(0, 1)], .value 0, .staged⟩,
  ⟨0x4300, 32, 4, 4, .u8, .rw, false, 255, [(0, 3), (255, 255)], .value 255, .staged⟩,
  ⟨0x4300, 32, 5, 5, .bool, .rw, false, 0, [(0, 1)], .none, .staged⟩,
  ⟨0x4300, 32, 6, 6, .bool, .rw, false, 0, [(0, 1)], .none, .staged⟩,
  ⟨0x4300, 40, 7, 7, .i32, .rw, false, 2147483648, [(-2147483648, 2147483647)], .none, .staged⟩,
  ⟨0x4300, 40, 8, 8, .i32, .rw, false, 2147483647, [(-2147483648, 2147483647)], .none, .staged⟩,
  ⟨0x4300, 40, 16, 16, .u64, .ro, false, 0, [(0, 18446744073709551615)], .none, .none⟩,
  ⟨0x4300, 40, 17, 17, .u64, .ro, false, 0, [(0, 18446744073709551615)], .none, .none⟩,
  ⟨0x4300, 40, 18, 18, .u64, .ro, false, 0, [(0, 18446744073709551615)], .none, .none⟩,
  ⟨0x4300, 40, 19, 19, .u8, .ro, false, 0, [(0, 255)], .none, .none⟩,
  ⟨0x4300, 40, 20, 20, .u32, .ro, false, 0, [(0, 4294967295)], .none, .none⟩,
  ⟨0x4300, 40, 21, 21, .u32, .ro, false, 0, [(0, 4294967295)], .none, .none⟩,
  ⟨0x4300, 40, 22, 22, .u8, .ro, false, 0, [(0, 255)], .none, .none⟩,
  ⟨0x4300, 40, 23, 23, .u32, .ro, false, 0, [(0, 4294967295)], .none, .none⟩,
  ⟨0x2B00, 1, 1, 1, .bool, .rw, false, 0, [(0, 1)], .none, .staged⟩,
  ⟨0x2B00, 1, 2, 2, .u16, .rw, false, 800, [(400, 2000)], .nearest, .staged⟩,
  ⟨0x2B00, 1, 3, 3, .u16, .rw, false, 2000, [(500, 10000)], .nearest, .staged⟩,
  ⟨0x2B00, 1, 4, 4, .bool, .wo, false, 0, [(1, 1)], .ignored, .now⟩,
  ⟨0x2B10, 12, 1, 1, .bool, .rw, false, 0, [(0, 1)], .none, .staged⟩,
  ⟨0x2B10, 12, 2, 2, .u16, .rw, false, 10000, [(500, 50000)], .nearest, .staged⟩,
  ⟨0x2B10, 12, 3, 3, .u16, .rw, false, 0, [(0, 4096)], .nearest, .staged⟩,
  ⟨0x2B10, 12, 4, 4, .u8, .rw, false, 255, [(0, 15), (255, 255)], .value 255, .staged⟩,
  ⟨0x2B10, 12, 5, 5, .u16, .rw, false, 50000, [(500, 50000)], .nearest, .staged⟩,
  ⟨0x2B20, 1, 1, 1, .bool, .rw, false, 0, [(0, 1)], .none, .staged⟩,
  ⟨0x2B20, 1, 2, 2, .u8, .rw, false, 1, [(0, 1)], .value 1, .staged⟩,
  ⟨0x2B20, 1, 3, 3, .u8, .rw, false, 2, [(0, 7)], .nearest, .staged⟩,
  ⟨0x2B20, 1, 4, 4, .u8, .rw, false, 255, [(0, 15), (255, 255)], .value 255, .staged⟩,
  ⟨0x2B20, 1, 5, 5, .u32, .rw, false, 0, [(0, 10240000)], .nearest, .staged⟩,
  ⟨0x2B20, 1, 6, 6, .u64, .wo, false, 0, [(0, 18446744073709551615)], .refused, .now⟩,
  ⟨0x5B00, 1, 1, 1, .bool, .ro, false, 0, [(0, 1)], .none, .none⟩,
  ⟨0x5B00, 1, 2, 2, .u32, .ro, false, 0, [(0, 4294967295)], .none, .none⟩,
  ⟨0x5B00, 1, 3, 3, .bool, .ro, false, 0, [(0, 1)], .none, .none⟩,
  ⟨0x5B00, 1, 4, 4, .u32, .ro, false, 0, [(0, 4294967295)], .none, .none⟩,
  ⟨0x5B00, 1, 5, 5, .u32, .ro, false, 0, [(0, 4294967295)], .none, .none⟩,
  ⟨0x5B00, 1, 7, 7, .u16, .ro, false, 0, [(0, 65535)], .none, .none⟩]

/-- Rows of the object tables, part 11 (R404 to R426). -/
def objRows11 : List ObjRow := [
  ⟨0x5B00, 1, 8, 8, .u32, .ro, false, 0, [(0, 4294967295)], .none, .none⟩,
  ⟨0x5B00, 1, 9, 9, .u64, .ro, false, 0, [(0, 18446744073709551615)], .none, .none⟩,
  ⟨0x5B00, 1, 10, 10, .u32, .ro, false, 0, [(0, 4294967295)], .none, .none⟩,
  ⟨0x5B00, 1, 11, 11, .u64, .ro, false, 0, [(0, 18446744073709551615)], .none, .none⟩,
  ⟨0x5B00, 1, 12, 12, .u32, .ro, false, 0, [(0, 4294967295)], .none, .none⟩,
  ⟨0x5B00, 1, 13, 13, .u32, .ro, false, 0, [(0, 4294967295)], .none, .none⟩,
  ⟨0x5B00, 1, 14, 14, .u32, .ro, false, 0, [(0, 4294967295)], .none, .none⟩,
  ⟨0x7000, 1, 1, 8, .u16, .rw, true, 0, [(0, 1), (256, 264), (4096, 4287), (4352, 4543), (4608, 4799), (4864, 5055), (5120, 5311), (5376, 5567), (8192, 8215), (8448, 8471), (8704, 8727), (12288, 12295), (16384, 16447), (16640, 16703), (20480, 20511), (20736, 20767), (24576, 24579), (28672, 28676), (32768, 32783), (36864, 36867), (37120, 37132), (40960, 40962)], .value 0, .now⟩,
  ⟨0x7000, 1, 9, 9, .u16, .rw, true, 0, [(0, 255), (256, 447), (512, 703), (768, 771), (1024, 1279), (1280, 1535)], .value 0, .now⟩,
  ⟨0x7000, 1, 10, 10, .bool, .rw, true, 0, [(0, 1)], .none, .now⟩,
  ⟨0x7010, 1, 1, 1, .i16, .ro, true, 0, [(-32768, 32767)], .none, .none⟩,
  ⟨0x7010, 1, 2, 2, .i16, .ro, true, 0, [(-32768, 32767)], .none, .none⟩,
  ⟨0x7010, 1, 3, 3, .i16, .ro, true, 0, [(-32768, 32767)], .none, .none⟩,
  ⟨0x7010, 1, 4, 4, .u32, .ro, true, 0, [(0, 4294967295)], .none, .none⟩,
  ⟨0x7010, 1, 5, 5, .u16, .ro, true, 0, [(0, 65535)], .none, .none⟩]

/-- Every object of the dictionary (R300 to R313). -/
def objRows : List ObjRow :=
  objRows1 ++ objRows2 ++ objRows3 ++ objRows4 ++ objRows5 ++ objRows6 ++ objRows7 ++ objRows8 ++ objRows9 ++ objRows10 ++ objRows11

/-- The row covers the index. -/
def ObjRow.hasIndex (r : ObjRow) (i : Nat) : Bool := decide (r.index ≤ i ∧ i < r.index + r.span)

/-- The row covers index.sub. -/
def ObjRow.has (r : ObjRow) (i sub : Nat) : Bool := r.hasIndex i && decide (r.lo ≤ sub ∧ sub ≤ r.hi)

/-- The row of index.sub (R302). -/
def objRow (i sub : Nat) : Option ObjRow := objRows.find? (·.has i sub)

/-- An index is present (R302). -/
def indexPresent (i : Nat) : Bool := objRows.any (·.hasIndex i)

/-- The highest subindex in use of an index (R16). -/
def highestSub (i : Nat) : Nat := objRows.foldl (fun m r => if r.hasIndex i then max m r.hi else m) 0

/-- The row that answers for index.sub: subindex 0 of an array or record object is a RO U8 (R302). -/
def objAt (i sub : Nat) : Option ObjRow :=
  match objRow i sub with
  | some r => some r
  | none =>
    if sub = 0 ∧ indexPresent i then
      some ⟨i, 1, 0, 0, .u8, .ro, false, highestSub i, [(0, 255)], .none, .none⟩
    else none

/-- The default of a dictionary key; 0 for table entries and absent objects (R121, R251). -/
def keyDefault (k : Nat) : Nat :=
  match objRow (k / 256) (k % 256) with
  | some r => r.dflt
  | none => 0

/-- A value lies in one of the ranges. -/
def inRanges (rs : List (Int × Int)) (v : Int) : Bool := rs.any (fun r => decide (r.1 ≤ v ∧ v ≤ r.2))

/-- The outcome of a range check (R305). -/
inductive RangeResult where
  | stored (v : Nat) | clamped (v : Nat) | refused | ignored
  deriving DecidableEq, Repr

/-- The nearest end of the ranges (R305); signed values are compared as signed values. -/
def nearestEnd (rs : List (Int × Int)) (v : Int) : Int :=
  match rs with
  | [] => v
  | (lo, hi) :: rest => if v < lo then lo else (rest.getLast?.map (·.2)).getD hi

/-- Step 10 of R304 with R305: the value as stored, clamped, refused or ignored. -/
def ObjRow.check (r : ObjRow) (raw : Nat) : RangeResult :=
  if inRanges r.ranges (r.ty.toInt raw) then .stored raw
  else match r.clamp with
    | .value v => .clamped v
    | .nearest => .clamped (r.ty.ofInt (nearestEnd r.ranges (r.ty.toInt raw)))
    | .mask m => .clamped (raw &&& m)
    | .refused => .refused
    | .ignored => .ignored
    | .none => .stored raw

/-! Addresses: `c…` names an object that is configured (with its default), `k…` the key of a status or counter. The
rule of each stands with its row in the object tables of the spec. -/

def kDeviceState : Nat := key 0x2000 0
def cRunControl : Obj := ⟨key 0x2001 0, 0⟩
def kTimeNow : Nat := key 0x2100 0
def kAnchorValid : Nat := key 0x2101 1
def kAnchorTw : Nat := key 0x2101 2
def kAnchorSec : Nat := key 0x2101 3
def kAnchorNs : Nat := key 0x2101 4
def cAlignMode : Obj := ⟨key 0x2102 1, 0⟩
def cJumpThreshold : Obj := ⟨key 0x2103 0, 500⟩
def cPtpSelect : Obj := ⟨key 0x2104 0, 0⟩
def cEthPtpEnable (n : Nat) : Obj := ⟨key (0x2105 + n) 1, 0⟩
def cEthSpeed (n : Nat) : Obj := ⟨key (0x2105 + n) 2, 1⟩
def cEthTransport (n : Nat) : Obj := ⟨key (0x2105 + n) 3, 0⟩
def cEthDelayMechanism (n : Nat) : Obj := ⟨key (0x2105 + n) 4, 1⟩
def cEthDomain (n : Nat) : Obj := ⟨key (0x2105 + n) 5, 0⟩
def cEthIpv4Address (n : Nat) : Obj := ⟨key (0x2105 + n) 6, 0⟩
def cEthVlanId (n : Nat) : Obj := ⟨key (0x2105 + n) 7, 0⟩
def cEthAnnounceTimeout (n : Nat) : Obj := ⟨key (0x2105 + n) 8, 3⟩
def cEthDelayAsymmetry (n : Nat) : Obj := ⟨key (0x2105 + n) 9, 0⟩
def cEthPdelayRespMode (n : Nat) : Obj := ⟨key (0x2105 + n) 10, 0⟩
def cSynceEnable : Obj := ⟨key 0x2107 1, 0⟩
def cSourcePort : Obj := ⟨key 0x2107 2, 0⟩
def cMinQl : Obj := ⟨key 0x2107 3, 3⟩
def cHoldClkEnable : Obj := ⟨key 0x2108 1, 0⟩
def cHoldoverAverage : Obj := ⟨key 0x2108 2, 64⟩
def cPgMode (n : Nat) : Obj := ⟨key (0x2110 + n) 1, 0⟩
def cPgStart (n : Nat) : Obj := ⟨key (0x2110 + n) 2, 0⟩
def cPgPeriod (n : Nat) : Obj := ⟨key (0x2110 + n) 3, 1024000000000⟩
def cPgWidth (n : Nat) : Obj := ⟨key (0x2110 + n) 4, 10240000⟩
def cPgCount (n : Nat) : Obj := ⟨key (0x2110 + n) 5, 0⟩
def cPgRoutes (n : Nat) : Obj := ⟨key (0x2110 + n) 6, 1⟩
def cPgTriggerClass (n : Nat) : Obj := ⟨key (0x2110 + n) 7, 0⟩
def cPgPolarity (n : Nat) : Obj := ⟨key (0x2110 + n) 8, 0⟩
def cServoKp : Obj := ⟨key 0x3102 1, 256⟩
def cServoKi : Obj := ⟨key 0x3102 2, 8⟩
def cServoMaxRate : Obj := ⟨key 0x3102 3, 109951163⟩
def cServoLockThreshold : Obj := ⟨key 0x3102 4, 20480⟩
def cServoLockCount : Obj := ⟨key 0x3102 5, 16⟩
def cServoRefuseLimit : Obj := ⟨key 0x3102 6, 16⟩
def cEthRxLatencyAdj (n : Nat) : Obj := ⟨key (0x3105 + n) 1, 0⟩
def cEthTxLatencyAdj (n : Nat) : Obj := ⟨key (0x3105 + n) 2, 0⟩
def kTimeServoState : Nat := key 0x5100 1
def kTimeSteeringPort : Nat := key 0x5100 2
def kTimeLastOffset : Nat := key 0x5100 3
def kTimeRate : Nat := key 0x5100 4
def kTimeFreqSource : Nat := key 0x5100 5
def kTimeJumpRefused : Nat := key 0x5100 6
def kTimeUtcOffset : Nat := key 0x5100 7
def kTimeGrandmasterId : Nat := key 0x5100 8
def kTimePortDiff : Nat := key 0x5100 9
def kTimeStepCount : Nat := key 0x5100 10
def kTimeEthDropped0 : Nat := key 0x5100 11
def kTimeEthDropped1 : Nat := key 0x5100 12
def kPlsState (n : Nat) : Nat := key (0x5110 + n % 16) 1
def kPlsFired (n : Nat) : Nat := key (0x5110 + n % 16) 2
def kPlsNextTime (n : Nat) : Nat := key (0x5110 + n % 16) 3
def kPlsSkipped (n : Nat) : Nat := key (0x5110 + n % 16) 4
def cPortEnable (k : Nat) : Obj := ⟨key 0x2200 (1 + k), 4294967295⟩
def cQuarantineHold : Obj := ⟨key 0x2201 0, 60⟩
def cBringUpRetries : Obj := ⟨key 0x2202 0, 8⟩
def cErrorThreshold : Obj := ⟨key 0x2203 0, 64⟩
def cTrainTimeout : Obj := ⟨key 0x3200 1, 2000⟩
def cLockTimeout : Obj := ⟨key 0x3200 2, 1000⟩
def cExchangeTimeout : Obj := ⟨key 0x3200 3, 4000⟩
def cPortLowPower (n : Nat) : Obj := ⟨key (0x4000 + n) 1, 0⟩
def cPortLoopMode (n : Nat) : Obj := ⟨key (0x4000 + n) 2, 0⟩
def cPortLoopPattern (n : Nat) : Obj := ⟨key (0x4000 + n) 3, 0⟩
def kPortLinkState (n : Nat) : Nat := key (0x4000 + n % 192) 16
def kPortPartnerVersion (n : Nat) : Nat := key (0x4000 + n % 192) 17
def kPortPartnerChannels (n : Nat) : Nat := key (0x4000 + n % 192) 18
def kPortPartnerFlags (n : Nat) : Nat := key (0x4000 + n % 192) 19
def kPortPartnerTurnaround (n : Nat) : Nat := key (0x4000 + n % 192) 20
def kPortFramesGood (n : Nat) : Nat := key (0x4000 + n % 192) 21
def kPortFramesCrc (n : Nat) : Nat := key (0x4000 + n % 192) 22
def kPortFramesStuff (n : Nat) : Nat := key (0x4000 + n % 192) 23
def kPortFramesMissed (n : Nat) : Nat := key (0x4000 + n % 192) 24
def kPortProtocolErrors (n : Nat) : Nat := key (0x4000 + n % 192) 25
def kPortBringUpFailures (n : Nat) : Nat := key (0x4000 + n % 192) 26
def kPortQuarantineCount (n : Nat) : Nat := key (0x4000 + n % 192) 27
def kPortStandstillDiscard (n : Nat) : Nat := key (0x4000 + n % 192) 28
def kPortBusyOverrun (n : Nat) : Nat := key (0x4000 + n % 192) 29
def kPortPartnerWithheld (n : Nat) : Nat := key (0x4000 + n % 192) 30
def kPortPartnerDropped (n : Nat) : Nat := key (0x4000 + n % 192) 31
def kPortLoopBits (n : Nat) : Nat := key (0x4000 + n % 192) 32
def kPortLoopErrors (n : Nat) : Nat := key (0x4000 + n % 192) 33
def kPortPartnerTemp (n : Nat) : Nat := key (0x4000 + n % 192) 34
def kPortPartnerStatus (n : Nat) : Nat := key (0x4000 + n % 192) 35
def kPortCapRefused (n : Nat) : Nat := key (0x4000 + n % 192) 36
def kPortEffectiveLowPower (n : Nat) : Nat := key (0x4000 + n % 192) 37
def kPortLoopRefused (n : Nat) : Nat := key (0x4000 + n % 192) 38
def kPortStartDiscard (n : Nat) : Nat := key (0x4000 + n % 192) 39
def kPortDisabledDiscard (n : Nat) : Nat := key (0x4000 + n % 192) 40
def kPortQuarantineFrames (n : Nat) : Nat := key (0x4000 + n % 192) 41
def cAcceptPast : Obj := ⟨key 0x2300 0, 1024⟩
def cAcceptFuture : Obj := ⟨key 0x2301 0, 8⟩
def cMarkerInterval : Obj := ⟨key 0x3300 1, 2⟩
def cAvgShift : Obj := ⟨key 0x3300 2, 6⟩
def cAcquireCount : Obj := ⟨key 0x3300 3, 16⟩
def cEchoTolerance : Obj := ⟨key 0x3300 4, 4096⟩
def cRejectLimit : Obj := ⟨key 0x3300 5, 16⟩
def cMaxDelayStep : Obj := ⟨key 0x3300 6, 64⟩
def cLocalTolerance : Obj := ⟨key 0x3300 7, 64⟩
def cPortDelayMode (n : Nat) : Obj := ⟨key (0x4000 + n) 6, 0⟩
def cPortAsymmetry (n : Nat) : Obj := ⟨key (0x4000 + n) 7, 0⟩
def cPortFixedDelay (n : Nat) : Obj := ⟨key (0x4000 + n) 8, 0⟩
def kPortDelayState (n : Nat) : Nat := key (0x4000 + n % 192) 42
def kPortAppliedDelay (n : Nat) : Nat := key (0x4000 + n % 192) 43
def kPortRoundTrip (n : Nat) : Nat := key (0x4000 + n % 192) 44
def kPortUplinkDelay (n : Nat) : Nat := key (0x4000 + n % 192) 45
def kPortEchoAccepted (n : Nat) : Nat := key (0x4000 + n % 192) 46
def kPortEchoRejected (n : Nat) : Nat := key (0x4000 + n % 192) 47
def kPortLocalTimeMismatch (n : Nat) : Nat := key (0x4000 + n % 192) 48
def kPortHorizonPast (n : Nat) : Nat := key (0x4000 + n % 192) 49
def kPortHorizonFuture (n : Nat) : Nat := key (0x4000 + n % 192) 50
def kPortChannelUnknown (n : Nat) : Nat := key (0x4000 + n % 192) 51
def kPortMaskedDiscard (n : Nat) : Nat := key (0x4000 + n % 192) 52
def kPortDelayJumps (n : Nat) : Nat := key (0x4000 + n % 192) 53
def cSealDelay : Obj := ⟨key 0x2400 0, 32⟩
def cReef1Headroom : Obj := ⟨key 0x2401 1, 256⟩
def cReef2Headroom : Obj := ⟨key 0x2401 2, 128⟩
def cReef3Headroom : Obj := ⟨key 0x2401 3, 32⟩
def cHeadroomHysteresis : Obj := ⟨key 0x2401 4, 64⟩
def cReef2Merge : Obj := ⟨key 0x2401 5, 75⟩
def cReef3Merge : Obj := ⟨key 0x2401 6, 90⟩
def cReef2FpQueue : Obj := ⟨key 0x2401 7, 75⟩
def cReefHold : Obj := ⟨key 0x2401 8, 64⟩
def cStragglerLogLimit : Obj := ⟨key 0x3400 1, 512⟩
def cLossLogLimit : Obj := ⟨key 0x3400 2, 64⟩
def kLossCounters (k : Nat) : Nat := key 0x5400 (1 + k)
def kMergeFill : Nat := key 0x5401 1
def kMergeHighWater : Nat := key 0x5401 2
def kMergePoison : Nat := key 0x5401 3
def kMergeFull : Nat := key 0x5401 4
def kMergeMarginShort : Nat := key 0x5401 5
def kMergeCorrected : Nat := key 0x5401 6
def kOldestSlice : Nat := key 0x5402 1
def kNewestSlice : Nat := key 0x5402 2
def kFirstRunSlice : Nat := key 0x5402 3
def kLogHead : Nat := key 0x5402 4
def kPinHeadroom : Nat := key 0x5402 5
def kStragglerHead : Nat := key 0x5402 6
def kLossLogHead : Nat := key 0x5402 7
def kLossLogOverflow : Nat := key 0x5402 8
def kHbmDegraded : Nat := key 0x5402 9
def kHbmCrcBlocks : Nat := key 0x5402 10
def kLookBackNow : Nat := key 0x5402 11
def kStragglerUnlogged : Nat := key 0x5402 12
def kReefLevel : Nat := key 0x5403 1
def kReef1Entries : Nat := key 0x5403 2
def kReef2Entries : Nat := key 0x5403 3
def kReef3Entries : Nat := key 0x5403 4
def kSlicesAtReef1 : Nat := key 0x5403 5
def kSlicesAtReef2 : Nat := key 0x5403 6
def kSlicesAtReef3 : Nat := key 0x5403 7
def kSlicesDropped : Nat := key 0x5403 8
def kReefCause : Nat := key 0x5403 9
def cAlertEnable : Obj := ⟨key 0x2503 1, 0⟩
def cAlertGroup : Obj := ⟨key 0x2503 2, 0⟩
def cAlertMaxAge : Obj := ⟨key 0x2503 3, 10000⟩
def cMuEnable (n : Nat) : Obj := ⟨key (0x2510 + n) 1, 0⟩
def cMuPortMask (n k : Nat) : Obj := ⟨key (0x2510 + n) (2 + k), 0⟩
def cMuChannelLow (n : Nat) : Obj := ⟨key (0x2510 + n) 8, 0⟩
def cMuChannelHigh (n : Nat) : Obj := ⟨key (0x2510 + n) 9, 4095⟩
def cMuWindow (n : Nat) : Obj := ⟨key (0x2510 + n) 10, 25600⟩
def cMuThreshold (n : Nat) : Obj := ⟨key (0x2510 + n) 11, 4⟩
def cMuMode (n : Nat) : Obj := ⟨key (0x2510 + n) 12, 0⟩
def cMuHoldoff (n : Nat) : Obj := ⟨key (0x2510 + n) 13, 1048576⟩
def cMuClass (n : Nat) : Obj := ⟨key (0x2510 + n) 14, 0⟩
def cMuCountFp (n : Nat) : Obj := ⟨key (0x2510 + n) 15, 0⟩
def cAlertKey (k : Nat) : Obj := ⟨key 0x3500 (1 + k), 0⟩
def cAlertKeyEnable : Obj := ⟨key 0x3501 0, 0⟩
def cClsEnable (n : Nat) : Obj := ⟨key (0x4200 + n) 1, 0⟩
def cClsSources (n : Nat) : Obj := ⟨key (0x4200 + n) 2, 63⟩
def cClsPre (n : Nat) : Obj := ⟨key (0x4200 + n) 3, 0⟩
def cClsPost (n : Nat) : Obj := ⟨key (0x4200 + n) 4, 1048576⟩
def cClsPrescale (n : Nat) : Obj := ⟨key (0x4200 + n) 5, 1⟩
def cClsMergeGap (n : Nat) : Obj := ⟨key (0x4200 + n) 6, 0⟩
def cClsExpendable (n : Nat) : Obj := ⟨key (0x4200 + n) 7, 0⟩
def cClsQueueGroup (n : Nat) : Obj := ⟨key (0x4200 + n) 8, 0⟩
def kClsTriggersSeen (n : Nat) : Nat := key (0x4200 + n % 64) 16
def kClsSourceBlocked (n : Nat) : Nat := key (0x4200 + n % 64) 17
def kClsPrescaled (n : Nat) : Nat := key (0x4200 + n % 64) 18
def kClsOpened (n : Nat) : Nat := key (0x4200 + n % 64) 19
def kClsMerged (n : Nat) : Nat := key (0x4200 + n % 64) 20
def kClsAbsorbed (n : Nat) : Nat := key (0x4200 + n % 64) 21
def kClsOverflow (n : Nat) : Nat := key (0x4200 + n % 64) 22
def kClsBadWindow (n : Nat) : Nat := key (0x4200 + n % 64) 23
def kClsTooOld (n : Nat) : Nat := key (0x4200 + n % 64) 24
def kClsOutOfOrder (n : Nat) : Nat := key (0x4200 + n % 64) 25
def kClsContextRefused (n : Nat) : Nat := key (0x4200 + n % 64) 26
def kClsRecordsClosed (n : Nat) : Nat := key (0x4200 + n % 64) 27
def kClsRecordsReleased (n : Nat) : Nat := key (0x4200 + n % 64) 28
def kClsOpenContextsClass (n : Nat) : Nat := key (0x4200 + n % 64) 29
def kClsNextRecordNumber (n : Nat) : Nat := key (0x4200 + n % 64) 30
def kClsNotRun (n : Nat) : Nat := key (0x4200 + n % 64) 31
def kOpenContexts : Nat := key 0x5500 1
def kRecordSequence : Nat := key 0x5500 2
def kHeaderRingUsed : Nat := key 0x5500 3
def kTriggerOverflow : Nat := key 0x5500 4
def kPrimitiveLate : Nat := key 0x5500 5
def kAlertReceived : Nat := key 0x5500 6
def kAlertRefused : Nat := key 0x5500 7
def kLastAlertRefusal : Nat := key 0x5500 8
def kLastRequestTag : Nat := key 0x5500 9
def kLastRequestOutcome : Nat := key 0x5500 10
def kRecordsPending : Nat := key 0x5500 11
def kContextHighWater : Nat := key 0x5500 12
def kMuFired (n : Nat) : Nat := key (0x5510 + n % 16) 1
def kMuSuppressed (n : Nat) : Nat := key (0x5510 + n % 16) 2
def cFpEnable : Obj := ⟨key 0x2600 0, 0⟩
def cFpImageMap (k : Nat) : Obj := ⟨key 0x2601 (1 + k), 0⟩
def cFpBankReset : Obj := ⟨key 0x2603 0, 0⟩
def cBudgetBase (k : Nat) : Obj := ⟨key 0x2604 (1 + k), 64⟩
def cBudgetPerWord (k : Nat) : Obj := ⟨key 0x2605 (1 + k), 4⟩
def cQueueLimit : Obj := ⟨key 0x3600 0, 1536⟩
def cPortSampleFormat (n : Nat) : Obj := ⟨key (0x4000 + n) 9, 0⟩
def kPortFpOffDiscard (n : Nat) : Nat := key (0x4000 + n % 192) 54
def kPortFpQueueLoss (n : Nat) : Nat := key (0x4000 + n % 192) 55
def kPairPower : Nat := key 0x5600 1
def kLastImageError : Nat := key 0x5600 2
def kSlotImageId (k : Nat) : Nat := key 0x5601 (1 + k % 4)
def kCoreState (n : Nat) : Nat := key (0x5610 + n % 24) 1
def kCoreImageId (n : Nat) : Nat := key (0x5610 + n % 24) 2
def kCorePacketsDone (n : Nat) : Nat := key (0x5610 + n % 24) 3
def kCoreBudgetExceeded (n : Nat) : Nat := key (0x5610 + n % 24) 4
def kCoreFaults (n : Nat) : Nat := key (0x5610 + n % 24) 5
def kCoreLastFault (n : Nat) : Nat := key (0x5610 + n % 24) 6
def kCoreLastFaultPc (n : Nat) : Nat := key (0x5610 + n % 24) 7
def kCoreAccessFaults (n : Nat) : Nat := key (0x5610 + n % 24) 8
def kCoreEmitOverflow (n : Nat) : Nat := key (0x5610 + n % 24) 9
def kCoreQueueFill (n : Nat) : Nat := key (0x5610 + n % 24) 10
def kCoreQueueHighWater (n : Nat) : Nat := key (0x5610 + n % 24) 11
def kCoreFeatureHits (n : Nat) : Nat := key (0x5610 + n % 24) 12
def kCorePrimitives (n : Nat) : Nat := key (0x5610 + n % 24) 13
def kCoreQueueDrops (n : Nat) : Nat := key (0x5610 + n % 24) 14
def kCoreCyclesUsed (n : Nat) : Nat := key (0x5610 + n % 24) 15
def kCoreMemCorrected (n : Nat) : Nat := key (0x5610 + n % 24) 16
def cMailboxVector : Obj := ⟨key 0x2700 0, 0⟩
def cBar4Enable : Obj := ⟨key 0x3700 1, 0⟩
def cBar4Base : Obj := ⟨key 0x3700 2, 0⟩
def cRelaxedOrdering : Obj := ⟨key 0x3700 3, 1⟩
def kHostLinkRate : Nat := key 0x5700 1
def kHostLinkWidth : Nat := key 0x5700 2
def kHostBytesDelivered : Nat := key 0x5700 3
def kHostRecordsDelivered : Nat := key 0x5700 4
def kHostRecordsReplayed : Nat := key 0x5700 5
def kHostAbortedTransfers : Nat := key 0x5700 6
def kHostDescReadErrors : Nat := key 0x5700 7
def kHostInterruptsSent : Nat := key 0x5700 8
def kHostBadAccess : Nat := key 0x5700 9
def kHostFlrCount : Nat := key 0x5700 10
def kHostInTransfer : Nat := key 0x5700 11
def kSession (k : Nat) : Nat := key 0x1010 (1 + k)
def kReportsLost (k : Nat) : Nat := key 0x1010 (9 + k % 8)
def cSessionTimeout : Obj := ⟨key 0x1011 0, 10⟩
def kNextEntry : Nat := key 0x1020 1
def kEntriesWritten : Nat := key 0x1020 2
def kJournal : Nat := key 0x1021 0
def kShadowState : Nat := key 0x1030 1
def kPendingSlice : Nat := key 0x1030 2
def kStagedFields : Nat := key 0x1030 3
def cOwner : Obj := ⟨key 0x1030 4, 255⟩
def kLastCommitResult : Nat := key 0x1030 7
def kClampTotal : Nat := key 0x1032 1
def kClampEntry (k : Nat) : Nat := key 0x1032 (2 + k)
def kConfigEpoch : Nat := key 0x1033 0
def kStoreState : Nat := key 0x1040 2
def kStoreGeneration : Nat := key 0x1040 3
def kStoredEpoch : Nat := key 0x1040 4
def kActiveSlot : Nat := key 0x1100 1
def cPreferredSlot : Obj := ⟨key 0x1100 2, 0⟩
def kVersionA : Nat := key 0x1100 3
def kVersionB : Nat := key 0x1100 4
def kBootImageState : Nat := key 0x1100 7
def cCanNominalRateA : Obj := ⟨key 0x2002 1, 1⟩
def cCanDataRateA : Obj := ⟨key 0x2002 2, 2⟩
def cCanNominalRateB : Obj := ⟨key 0x2002 3, 1⟩
def cCanDataRateB : Obj := ⟨key 0x2002 4, 2⟩
def kNodeId : Nat := key 0x2002 5
def kDeviceSequence : Nat := key 0x5000 1
def kScrubReloads : Nat := key 0x5000 2
def kScrubStuck : Nat := key 0x5000 3
def kTmrCorrected : Nat := key 0x5000 4
def kShadowCorrected : Nat := key 0x5000 5
def kShadowRepairs : Nat := key 0x5000 6
def kCanIgnoredA : Nat := key 0x5000 7
def kCanIgnoredB : Nat := key 0x5000 8
def kCanBusOffA : Nat := key 0x5000 9
def kCanBusOffB : Nat := key 0x5000 10
def kCanRxOverrunA : Nat := key 0x5000 11
def kCanRxOverrunB : Nat := key 0x5000 12
def kSequenceErrors : Nat := key 0x5000 13
def kRepeats : Nat := key 0x5000 14
def kUnlockFailures : Nat := key 0x5000 15
def kFirmwareVersion : Nat := key 0x1001 10
def kTwinRole : Nat := key 0x2800 0
def cTwinMode : Obj := ⟨key 0x2802 0, 0⟩
def cPartnerSerial : Obj := ⟨key 0x2803 0, 0⟩
def cLeaseTime : Obj := ⟨key 0x2804 0, 50000⟩
def cStatusInterval : Obj := ⟨key 0x2805 0, 10⟩
def cDrillWarn : Obj := ⟨key 0x2806 0, 30⟩
def cStayTimeout : Obj := ⟨key 0x3800 1, 3000⟩
def cMizzenWait : Obj := ⟨key 0x3800 2, 64⟩
def cReadyAfter : Obj := ⟨key 0x3800 3, 262144⟩
def cLaneMask : Obj := ⟨key 0x3800 4, 15⟩
def kHighestTerm : Nat := key 0x5800 1
def kLeaseRemaining : Nat := key 0x5800 2
def kReadyState : Nat := key 0x5800 3
def kStayLanes : Nat := key 0x5800 4
def kPartnerSerialSeen : Nat := key 0x5800 5
def kSnapshotsSent : Nat := key 0x5800 6
def kSnapshotsCommitted : Nat := key 0x5800 7
def kSnapshotsDiscarded : Nat := key 0x5800 8
def kDigestCompared : Nat := key 0x5800 9
def kDigestMismatch : Nat := key 0x5800 10
def kLastMismatchSlice : Nat := key 0x5800 11
def kUnsyncedSlices : Nat := key 0x5800 12
def kDaMissingHits : Nat := key 0x5800 13
def kTakeovers : Nat := key 0x5800 14
def kFences : Nat := key 0x5800 15
def kLastFenceCause : Nat := key 0x5800 16
def kReplaySetSize : Nat := key 0x5800 17
def kLastTakeoverAge : Nat := key 0x5800 18
def kLeaseIgnored : Nat := key 0x5800 19
def kJoinSlice : Nat := key 0x5800 20
def kLastSnapshotSlice : Nat := key 0x5800 21
def kStayRetransmits : Nat := key 0x5800 22
def kLastTakeoverSlice : Nat := key 0x5800 23
def cInterpolatorUse : Obj := ⟨key 0x3900 1, 0⟩
def kTimerPower : Nat := key 0x5900 1
def kLockLosses : Nat := key 0x5900 2
def cTinMode (n : Nat) : Obj := ⟨key (0x4100 + n) 1, 0⟩
def cTinInputStandard (n : Nat) : Obj := ⟨key (0x4100 + n) 2, 0⟩
def cTinTermination (n : Nat) : Obj := ⟨key (0x4100 + n) 3, 1⟩
def cTinEdge (n : Nat) : Obj := ⟨key (0x4100 + n) 4, 1⟩
def cTinOffset (n : Nat) : Obj := ⟨key (0x4100 + n) 5, 0⟩
def cTinStopInput (n : Nat) : Obj := ⟨key (0x4100 + n) 6, 0⟩
def cTinStopEdge (n : Nat) : Obj := ⟨key (0x4100 + n) 7, 2⟩
def cTinTimeout (n : Nat) : Obj := ⟨key (0x4100 + n) 8, 10240000⟩
def cTinPrescale (n : Nat) : Obj := ⟨key (0x4100 + n) 9, 1⟩
def cTinGatePeriod (n : Nat) : Obj := ⟨key (0x4100 + n) 10, 1024⟩
def cTinRoute (n : Nat) : Obj := ⟨key (0x4100 + n) 11, 0⟩
def cTinTriggerClass (n : Nat) : Obj := ⟨key (0x4100 + n) 12, 0⟩
def cTinIntervalMin (n : Nat) : Obj := ⟨key (0x4100 + n) 13, 0⟩
def cTinIntervalMax (n : Nat) : Obj := ⟨key (0x4100 + n) 14, 1099511627776⟩
def cTinTriggerAlign (n : Nat) : Obj := ⟨key (0x4100 + n) 15, 0⟩
def kTinLastResult0 (n : Nat) : Nat := key (0x4100 + n % 32) 16
def kTinLastResult1 (n : Nat) : Nat := key (0x4100 + n % 32) 17
def kTinLastResult2 (n : Nat) : Nat := key (0x4100 + n % 32) 18
def kTinLastResult3 (n : Nat) : Nat := key (0x4100 + n % 32) 19
def kTinResultsWritten (n : Nat) : Nat := key (0x4100 + n % 32) 20
def kTinEdges (n : Nat) : Nat := key (0x4100 + n % 32) 21
def kTinBusyEdges (n : Nat) : Nat := key (0x4100 + n % 32) 22
def kTinStopUnpaired (n : Nat) : Nat := key (0x4100 + n % 32) 23
def kTinStartIgnored (n : Nat) : Nat := key (0x4100 + n % 32) 24
def kTinTimeouts (n : Nat) : Nat := key (0x4100 + n % 32) 25
def kTinInterpState (n : Nat) : Nat := key (0x4100 + n % 32) 26
def kTinUnlockedResults (n : Nat) : Nat := key (0x4100 + n % 32) 27
def kTinTriggersRaised (n : Nat) : Nat := key (0x4100 + n % 32) 28
def cMonRegularMode : Obj := ⟨key 0x2A00 1, 0⟩
def cMonRegularLength : Obj := ⟨key 0x2A00 2, 1⟩
def cMonInjectedLength : Obj := ⟨key 0x2A00 3, 1⟩
def cMonInjectedEnable : Obj := ⟨key 0x2A00 4, 0⟩
def cMonInjectedMode : Obj := ⟨key 0x2A00 5, 0⟩
def cMonBreakEvery : Obj := ⟨key 0x2A00 6, 10⟩
def cEntChannel (n : Nat) : Obj := ⟨key (0x2A10 + n) 1, 32⟩
def cEntRate (n : Nat) : Obj := ⟨key (0x2A10 + n) 2, 2⟩
def cEntSettleTime (n : Nat) : Obj := ⟨key (0x2A10 + n) 3, 1000⟩
def cEntCount (n : Nat) : Obj := ⟨key (0x2A10 + n) 4, 1⟩
def cExcMode (n : Nat) : Obj := ⟨key (0x2A60 + n) 1, 0⟩
def cExcVoltageLevel (n : Nat) : Obj := ⟨key (0x2A60 + n) 2, 2500⟩
def cExcCurrentLevel (n : Nat) : Obj := ⟨key (0x2A60 + n) 3, 100⟩
def kMonitorPower : Nat := key 0x5A00 1
def kMonSequenceState : Nat := key 0x5A00 2
def kMonRegularPasses : Nat := key 0x5A00 3
def kMonInjectedRuns : Nat := key 0x5A00 4
def kMonInjectedOverrun : Nat := key 0x5A00 5
def kMonRegularOverrun : Nat := key 0x5A00 6
def kMonAborts : Nat := key 0x5A00 7
def kMonTrimValid : Nat := key 0x5A00 8
def kMonTrimReloads : Nat := key 0x5A00 9
def kMonExcStatus : Nat := key 0x5A00 10
def kMonExcFaults : Nat := key 0x5A00 11
def kMonChecksRun : Nat := key 0x5A00 12
def kMonInjectedIgnored : Nat := key 0x5A00 13
def kInjectedResult (n k : Nat) : Nat := key (0x5A10 + n % 16) (1 + k)
def cChNegInput (n : Nat) : Obj := ⟨key (0x4300 + n) 1, 32⟩
def cChRangeMode (n : Nat) : Obj := ⟨key (0x4300 + n) 2, 8⟩
def cChReference (n : Nat) : Obj := ⟨key (0x4300 + n) 3, 0⟩
def cChExcPair (n : Nat) : Obj := ⟨key (0x4300 + n) 4, 255⟩
def cChAlternate (n : Nat) : Obj := ⟨key (0x4300 + n) 5, 0⟩
def cChBreakCheck (n : Nat) : Obj := ⟨key (0x4300 + n) 6, 0⟩
def cChAlarmLow (n : Nat) : Obj := ⟨key (0x4300 + n) 7, 2147483648⟩
def cChAlarmHigh (n : Nat) : Obj := ⟨key (0x4300 + n) 8, 2147483647⟩
def kChLastResult0 (n : Nat) : Nat := key (0x4300 + n % 40) 16
def kChLastResult1 (n : Nat) : Nat := key (0x4300 + n % 40) 17
def kChLastResult2 (n : Nat) : Nat := key (0x4300 + n % 40) 18
def kChCurrentRange (n : Nat) : Nat := key (0x4300 + n % 40) 19
def kChResults (n : Nat) : Nat := key (0x4300 + n % 40) 20
def kChBreaks (n : Nat) : Nat := key (0x4300 + n % 40) 21
def kChAlarmState (n : Nat) : Nat := key (0x4300 + n % 40) 22
def kChRestarts (n : Nat) : Nat := key (0x4300 + n % 40) 23
def cLightBoostEnable : Obj := ⟨key 0x2B00 1, 0⟩
def cLightHeadroom : Obj := ⟨key 0x2B00 2, 800⟩
def cLightShortLimit : Obj := ⟨key 0x2B00 3, 2000⟩
def cSinkEnable (n : Nat) : Obj := ⟨key (0x2B10 + n) 1, 0⟩
def cSinkDimCurrent (n : Nat) : Obj := ⟨key (0x2B10 + n) 2, 10000⟩
def cSinkDim (n : Nat) : Obj := ⟨key (0x2B10 + n) 3, 0⟩
def cSinkFlashSource (n : Nat) : Obj := ⟨key (0x2B10 + n) 4, 255⟩
def cSinkFlashCurrent (n : Nat) : Obj := ⟨key (0x2B10 + n) 5, 50000⟩
def cLampEnable : Obj := ⟨key 0x2B20 1, 0⟩
def cLampRate : Obj := ⟨key 0x2B20 2, 1⟩
def cLampRetries : Obj := ⟨key 0x2B20 3, 2⟩
def cLampFlashSource : Obj := ⟨key 0x2B20 4, 255⟩
def cLampSatDelay : Obj := ⟨key 0x2B20 5, 0⟩
def kLightPower : Nat := key 0x5B00 1
def kLightBoostVoltage : Nat := key 0x5B00 2
def kLightBoostAtMax : Nat := key 0x5B00 3
def kLightSinkFaults : Nat := key 0x5B00 4
def kLightFaultEvents : Nat := key 0x5B00 5
def kLightLowHeadroom : Nat := key 0x5B00 7
def kLightOvervoltage : Nat := key 0x5B00 8
def kLightFlashesDone : Nat := key 0x5B00 9
def kLightFlashesMissed : Nat := key 0x5B00 10
def kLightLampResult : Nat := key 0x5B00 11
def kLightLampNoResponse : Nat := key 0x5B00 12
def kLightLampCrcErrors : Nat := key 0x5B00 13
def kLightLampLate : Nat := key 0x5B00 14
def cCnSelect (k : Nat) : Obj := ⟨key 0x7000 (1 + k), 0⟩
def cCnHsSelect : Obj := ⟨key 0x7000 9, 0⟩
def cCnEnable : Obj := ⟨key 0x7000 10, 0⟩
def kDieTempMax : Nat := key 0x7010 1
def kHbmTemp0 : Nat := key 0x7010 2
def kHbmTemp1 : Nat := key 0x7010 3
def kThermalWarnings : Nat := key 0x7010 4
def kStrapValue : Nat := key 0x7010 5

end Sys2Proof.Machine
end

