-- ==== Sys2Proof/Machine/State.lean ====
section
/-! DEFINITION. The state of one KC-192 as plain data: every register, FIFO, buffer, counter, mode and pin that the
manual names, and the queue of the commands that wait. -/

namespace Sys2Proof.Machine

/-- The device states of R26, in the order of DeviceState. -/
inductive DevState where
  | powered | boot | standstill | run | fenced | fault
  deriving DecidableEq, Repr

/-- The twin roles of R319, in the order of TwinRole (R344). -/
inductive Role where
  | solo | mainmast | mizzen | fenced
  deriving DecidableEq, Repr

/-- The states of a port (R86, R93, R96), in the order of LinkState (R108). -/
inductive LinkState where
  | disabled | detect | train | lock | exchange | active | idle | deep | loop | quarantine
  deriving DecidableEq, Repr

/-- The states of R116. -/
inductive DelayState where
  | none | acquiring | tracking | hold | fixed
  deriving DecidableEq, Repr

/-- The servo states of R58. -/
inductive ServoState where
  | freerun | aligning | acquiring | locked | holdover | refusing
  deriving DecidableEq, Repr

/-- The sources of the 125 MHz tick, in the order of FreqSource (R72). -/
inductive FreqSource where
  | refclk | synce | holdClk
  deriving DecidableEq, Repr

/-- The trigger sources, in the order of header byte 33 (R179). -/
inductive TrigSource where
  | tin | mult | feature | scheduled | alert | host
  deriving DecidableEq, Repr

/-- The loss causes of R19, in its order. -/
inductive LossCause where
  | linkCrc | stuffErr | horizon | straggler | fpQueue | reef1 | reef3 | hbmCrc | queueFull | tooOld | tinBusy
  deriving DecidableEq, Repr

/-- The state of pulse generators (R72). -/
inductive PulseState where
  | idle | armed | running | done | late | tooFar
  deriving DecidableEq, Repr

/-- The states of a queue (R242). -/
inductive QueueState where
  | disabled | active | draining | error
  deriving DecidableEq, Repr

/-- The states of a feature processor (R216). -/
inductive CoreState where
  | off | loading | idle | busy | noImage
  deriving DecidableEq, Repr

/-- The transports of a session (R298). -/
inductive Transport where
  | mailbox | canA | canB
  deriving DecidableEq, Repr

/-- A descriptor as it stands in host memory (R244). -/
structure Desc where
  addr : BitVec 64
  len : BitVec 32
  tag : BitVec 32
  deriving DecidableEq, Repr

/-- The staged fields of a pulse generator (R63, R70 subindices 1 to 8). -/
structure PulseFields where
  mode : BitVec 8
  start : Tw
  period : BitVec 64
  width : BitVec 32
  count : BitVec 32
  routes : BitVec 8
  cls : BitVec 8
  activeLow : Bool
  deriving DecidableEq, Repr

/-- The outcome of an Arm write (R64, R66). -/
inductive ArmOutcome where
  | accepted | late | tooFar
  deriving DecidableEq, Repr

/-- A trigger forwarded in a SLICE message (R328). -/
structure FwdTrigger where
  host : Bool
  cls : Nat
  srcNum : Nat
  tag : BitVec 32
  wstart : Tw
  wend : Tw
  alertSeq : BitVec 64
  deriving DecidableEq, Repr

/-- A placement forwarded while the partner is joining (R341): the class, the outcome code of R170, its place among the
triggers of the slice, the class record number and the window. -/
structure Placement where
  cls : Nat
  outcome : Nat
  rank : Nat
  recordNumber : BitVec 32
  wstart : Tw
  wend : Tw
  deriving DecidableEq, Repr

/-- A snapshot (R335); `done` lists the sequences above `through` that the bitmap marks. -/
structure Snapshot where
  number : BitVec 64
  term : BitVec 32
  slice : Nat
  epoch : BitVec 64
  through : BitVec 64
  recordSeq : BitVec 64
  oldest : Nat
  done : List Nat
  pins : List (BitVec 64 × BitVec 64)
  deriving DecidableEq, Repr

/-- A HELLO (R318). -/
structure HelloMsg where
  role : BitVec 8
  term : BitVec 32
  paired : Bool
  ready : BitVec 8
  serial : BitVec 64
  deriving DecidableEq, Repr

/-- The latest context of a class in a join's state transfer (R341): its window, its record number, whether it is open. -/
structure JoinLatest where
  ls : Tw
  le : Tw
  number : BitVec 32
  isOpen : Bool
  deriving DecidableEq, Repr

/-- The placement state of one class in a join's state transfer (R341). -/
structure JoinClass where
  cls : Nat
  nextNumber : BitVec 32
  prescale : Nat
  latest : Option JoinLatest
  deriving DecidableEq, Repr

/-- A closed undelivered record, with its sequence, or an open context, that a joiner takes over as hollow (R341): among them
what numbers and deals its further pieces (R177, R252). -/
structure HollowItem where
  seq : Option (BitVec 64)
  cls : Nat
  number : BitVec 32
  cont : Nat
  rank : Nat
  binding : Nat
  wstart : Tw
  wend : Tw
  queue : Nat
  firstQueue : Option Nat
  deriving DecidableEq, Repr

/-- The state at the start of the join slice (R341 step 3): `lists` holds for each multiplicity unit its last trigger and its
list, `counts` the counters of the two units that agree (R346). -/
structure JoinState where
  recordSeq : BitVec 64
  classes : List JoinClass
  deal : List (Nat × Nat)
  lists : List (Nat × Option Tw × List (Tw × Nat))
  hollow : List HollowItem
  counts : List (Nat × Nat)
  deriving DecidableEq, Repr

/-- A JOIN message (R341): the request, the choice of J with the configuration, and the state at the start of J. -/
inductive JoinMsg where
  | request
  | config (j : Nat) (epoch : BitVec 64) (fields : List (Nat × Nat)) (images : List (List Byte))
  | state (st : JoinState)
  deriving DecidableEq, Repr

/-- The messages of the stay link (R318). -/
inductive StayMsg where
  | slice (n : Nat) (level : Nat) (trigs : List FwdTrigger) (placements : List Placement)
  | digest (n : Nat) (digest recordSeq : BitVec 64)
  | delay (p : Nat) (frame : Nat) (da : Int)
  | start (p : Nat) (n : Nat)
  | commit (n : Nat) (changes : List (Nat × Nat))
  | arm (gen : Nat) (tr : Tw) (staged : PulseFields) (outcome : ArmOutcome)
  | image (slot : Nat) (bytes : List Byte)
  | snapshot (snap : Snapshot) (crc : BitVec 32)
  | takeover (term : BitVec 32) (n : Nat)
  | hello (h : HelloMsg)
  | join (m : JoinMsg)
  | ack (num : BitVec 32)
  deriving DecidableEq, Repr

/-- What the device sends or drives: one item for each thing an observer outside sees. -/
inductive Out where
  | can (bus : CanBus) (id : BitVec 29) (data : List Byte)
  | msix (vector : Nat)
  | hostWrite (addr : Nat) (bytes : List Byte) (relaxed : Bool)
  | ptp (e : Nat) (udp : Bool) (vlan : Nat) (peer : Bool) (msg : List Byte)
  | arp (e : Nat) (vlan : Nat) (msg : List Byte)
  | esmc (e : Nat) (ql : Nat)
  | downlink (p : Nat) (wire : List Bool)
  | stay (num : BitVec 32) (m : StayMsg)
  | pulseEdge (n : Nat) (high : Bool) (at_ : Tw)
  | flash (sink : Nat) (on : Bool) (at_ : Tw)
  | lampFrame (frame : BitVec 40) (at_ : Tw)
  deriving DecidableEq, Repr

/-- Device state, rails, straps, temperatures, TAP (16_electrical_startup.md, R26 to R31); `misordered` says that a rail
rose out of order, `hbmUntrained` that a stack then failed training (R408), `degradeDue` the slice at whose start the history
restarts on one stack (R155). -/
structure Sys where
  dev : DevState
  role : Role
  rails : BitVec 9
  strapPins : BitVec 8
  straps : BitVec 8
  bootHold : Bool
  cause : Nat
  refclkNoted : Bool
  ir : BitVec 8
  tapData : BitVec 32
  jtagHeld : Bool
  perst : Bool
  die : BitVec 16
  stack0 : BitVec 16
  stack1 : BitVec 16
  warnArmed : Bool
  fast0 : Bool
  fast1 : Bool
  refclk : Bool
  vled : Bool
  hbmFailed : BitVec 2
  degradeDue : Option Nat
  hbmUntrained : Bool
  misordered : Bool
  deriving DecidableEq, Repr

/-- One journal entry (R291). -/
structure JournalEntry where
  tw : Tw
  seq : BitVec 32
  code : Nat
  source : Nat
  data : BitVec 128
  deriving DecidableEq, Repr

/-- A report waiting in a session (R280). -/
structure Report where
  number : BitVec 16
  seq : BitVec 32
  code : Nat
  index : Nat
  data : List Byte
  deriving DecidableEq, Repr

/-- A DOMAIN write being collected (R275). -/
structure Collect where
  index : Nat
  sub : Nat
  total : Nat
  bytes : List Byte
  deriving DecidableEq, Repr

/-- One open session (R277 to R281). -/
structure Session where
  transport : Transport
  node : Nat
  client : BitVec 32
  expected : BitVec 16
  expert : Bool
  refusals : Nat
  mask : Nat
  reportNo : BitVec 16
  reports : List Report
  kept : List Byte
  collect : Option Collect
  lastC : BitVec 64
  deriving DecidableEq, Repr

/-- One clamp (R289). -/
structure ClampEntry where
  seq : BitVec 32
  index : Nat
  sub : Nat
  source : Nat
  written : BitVec 64
  stored : BitVec 64
  deriving DecidableEq, Repr

/-- A request that waits for its batch, with the time at which it completed (R282). -/
structure Request where
  transport : Transport
  node : Nat
  bytes : List Byte
  at_ : Tw
  deriving DecidableEq, Repr

/-- A response that waits for an ACK of the stay link (R318). -/
structure HeldResponse where
  num : BitVec 32
  request : Request
  bytes : List Byte
  deriving DecidableEq, Repr

/-- Sessions, transports and the journal (10_control_sessions.md); the slots of the mailbox are 0 to 15 for requests and
16 to 47 for responses, and `posted` holds for each request in the ring, the oldest first, when it was posted (R282). -/
structure Control where
  seq : BitVec 32
  journal : Tab JournalEntry
  jNext : Nat
  jCount : BitVec 32
  sessions : Tab Session
  canA : List Request
  canB : List Request
  reqTail : Nat
  reqHead : Nat
  respTail : Nat
  respHead : Nat
  armed : Bool
  slots : Tab (List Byte)
  posted : List Tw
  held : List HeldResponse
  clamps : Tab ClampEntry
  clampTotal : BitVec 32
  deriving DecidableEq, Repr

/-- One applied configuration: its first slice, its number and its values. -/
structure EpochRec where
  first : Nat
  number : BitVec 64
  table : Tab Nat
  deriving DecidableEq, Repr

/-- A store copy (R293): generation, stored epoch, the epoch set, the immediate objects, the image slots. -/
structure StoreCopy where
  generation : BitVec 32
  epoch : BitVec 64
  table : Tab Nat
  imm : Tab Nat
  images : Tab (List Byte)
  deriving DecidableEq, Repr

/-- A copy of the boot directory (R292, R298): its generation and PreferredSlot. -/
structure DirCopy where
  generation : BitVec 32
  preferred : Nat
  deriving DecidableEq, Repr

/-- The configuration sets (R283), the immediate objects, commits, store and boot images. The two copies of the store and of
the boot directory in the flash are none where they are not valid (R292). -/
structure Cfg where
  staging : Tab Nat
  pending : Option (Nat × Tab Nat)
  epoch : Tab Nat
  active : Tab Nat
  past : List EpochRec
  imm : Tab Nat
  number : BitVec 64
  owner : Nat
  lastCommit : Nat
  mismatch : Tab Nat
  store0 : Option StoreCopy
  store1 : Option StoreCopy
  dir0 : Option DirCopy
  dir1 : Option DirCopy
  storing : Option StoreCopy
  storeState : Nat
  images : Tab (List Byte)
  versionA : BitVec 32
  versionB : BitVec 32
  activeSlot : Nat
  programming : Option (BitVec 32)
  bootImageState : Nat
  deriving DecidableEq, Repr

/-- An Announce: the grandmaster, the data set as one number for the comparison of R55, currentUtcOffset and the announce
interval in fu. -/
structure AnnounceMsg where
  grandmaster : BitVec 64
  dataSet : Nat
  utcOffset : BitVec 16
  interval : Nat
  deriving DecidableEq, Repr

/-- One PTP instance (R52 to R55); `qual` says that its master is qualified, `syncAt`, `syncFu` and `dreqAt` give when the
last Sync came, its interval in fu and when the last Delay_Req left; t1 and t4 in fu of the PTP epoch, the peer delay and `theta` in half fu. -/
structure EthPort where
  link : Bool
  ql : Option Nat
  esmcAt : BitVec 64
  master : Option AnnounceMsg
  announces : List (BitVec 64)
  qual : Bool
  exchanges : Nat
  syncAt : BitVec 64
  syncFu : Nat
  dreqAt : BitVec 64
  syncSeq : Option (BitVec 16)
  t1 : Option Int
  t1time : PtpTime
  t2 : Option Tw
  syncCorr : Int
  dreqSeq : Option (BitVec 16)
  t3 : Option Tw
  t4 : Option Int
  pdSeq : Option (BitVec 16)
  pd1 : Option Tw
  pd4 : Option Tw
  pdReceipt : Option PtpTime
  pdCorr : Int
  peerDelay : Option Int
  theta : Option Int
  deriving DecidableEq, Repr

/-- The timebase and its servo (02_timebase.md); `b` is in units of 2^-40 fu, the samples and `autoStep` in half fu;
`anchorDue` says that an automatic step was made and the anchor not set since; `up` counts the ticks since power-on reset
without wrapping, for LastTakeoverAge (R342). -/
structure Timebase where
  c : BitVec 64
  b : Int
  f : Int
  cref : BitVec 64
  integ : Int
  servo : ServoState
  accepted : List Int
  refused : Nat
  lastRefused : Int
  refuseRun : Nat
  lockRun : Nat
  unlockRun : Nat
  history : List Int
  nextF : Option Int
  stepTarget : Option Tw
  autoStep : Option Int
  anchorDue : Bool
  anchorValid : Bool
  anchorTw : Tw
  anchorSec : Nat
  anchorNs : Nat
  sampleTime : PtpTime
  steering : Option EthId
  source : FreqSource
  synceInRange : Bool
  holdInRange : Bool
  up : Nat
  deriving DecidableEq, Repr

/-- A schedule of a pulse generator (R65, R66): pulses from `next` on fire while they lie before `cut`. -/
structure Schedule where
  fields : PulseFields
  next : Nat
  cut : Option Tw
  deriving DecidableEq, Repr

/-- The end of a pulse under way: its time, whether it drives the pin and at which polarity, and whether it flashes. -/
structure PulseEnd where
  at_ : Tw
  pin : Bool
  activeLow : Bool
  flash : Bool
  deriving DecidableEq, Repr

/-- One pulse generator (R63 to R69): its schedules, the oldest of `old` first, the ends of the pulses under way, and the
Polarity of the last accepted Arm, true for active low. -/
structure PulseGen where
  state : PulseState
  current : Option Schedule
  old : List Schedule
  ends : List PulseEnd
  activeLow : Bool
  deriving DecidableEq, Repr

/-- The transmitter of R75: the 58 scrambled bits sent last (bit 0 the latest), the last wire bit and its run. -/
structure LineTx where
  s : BitVec 58
  last : Bool
  run : Nat
  deriving DecidableEq, Repr

/-- The receiver of R75: the 58 scrambled bits received last (bit 0 the latest), the last wire bit and its run. -/
structure LineRx where
  s : BitVec 58
  last : Bool
  run : Nat
  deriving DecidableEq, Repr

/-- The checker of a PRBS31 loop (R96): the bits of the reference sequence (bit 0 the latest), and how many of the first 31
have been taken from the line. -/
structure Prbs where
  reg : BitVec 31
  seeded : Nat
  deriving DecidableEq, Repr

/-- A waveform packet in reception (R82, R198); `skip` says that its words are discarded. -/
structure Packet where
  port : Nat
  chan : Nat
  tw : Tw
  need : Nat
  words : List Word
  skip : Bool
  ta : Tw
  budget : Nat
  order : Nat
  deriving DecidableEq, Repr

/-- A marker sent (R109): its number, Ts, and whether an echo of it was accepted. -/
structure Sent where
  m : BitVec 8
  ts : Tw
  used : Bool
  deriving DecidableEq, Repr

/-- Port timing (R109 to R118), delays in port-delay units; `phis` holds Φ as it stood from each of the last readings of the
code on, with the raw count of the reading, the newest first. -/
structure Timing where
  ds : DelayState
  sent : List Sent
  lastCode : Option (BitVec 7)
  phi : Int
  phis : List (BitVec 64 × Int)
  b : Int
  samples : List Int
  rejects : Nat
  fromNone : Bool
  reacquired : Bool
  da : Option Int
  f : Nat
  latched : Tab Int
  ddAtTrack : Int
  trackedFrom : Nat
  firstDue : Bool
  rtt : Int
  forwarded : Tab Int
  waiting : Option Nat
  missing : Bool
  deriving DecidableEq, Repr

/-- The words of a frame that wait for the DA of a delay step (R329). -/
structure HeldFrame where
  ta : Tw
  f : Nat
  words : List Word
  deriving DecidableEq, Repr

/-- The power of a lane group (R94): 0 up, 1 DEEP_ENTER sent, 2 down, 3 waiting for its PLL; and since which raw count. -/
structure LaneGroup where
  phase : Nat
  since : BitVec 64
  deriving DecidableEq, Repr

/-- One port or stay lane (03_port_links.md); `since` is the raw count at which `st` was entered, `own` holds the opcodes of
the commands that the device itself has to send (R84). -/
structure Port where
  st : LinkState
  since : BitVec 64
  realign : Bool
  fails : Nat
  version : Nat
  channels : Nat
  flags : Nat
  turnaround : Nat
  busyResponse : Nat
  ident : BitVec 64
  capsSent : Nat
  capOk : Bool
  commands : List (BitVec 61)
  own : List Nat
  busy : Bool
  busySince : Option Tw
  markerNo : BitVec 8
  txSeq : BitVec 10
  lastSeq : Option (BitVec 10)
  badMarkers : Nat
  goodRun : Nat
  window : List Bool
  windowStep : Nat
  packet : Option Packet
  skip : Nat
  held : List HeldFrame
  start : Option Nat
  disableAt : Option Nat
  loop : Nat
  bitsSince : Nat
  prbs : Prbs
  tx : LineTx
  rx : LineRx
  timing : Timing
  deriving DecidableEq, Repr

/-- A hit in a bucket (R127): corrected time, port, channel, flag bits 23:20, payload and arrival sequence (R23). -/
structure Hit where
  tw : Tw
  port : Nat
  chan : Nat
  flags : BitVec 4
  payload : BitVec 20
  order : Nat
  deriving DecidableEq, Repr

/-- One entry of the slice index (R144); `first` counts words from the start of the run, so that the log word is its
remainder by the size of the log; `words` is the number of words in the log. -/
structure IndexEntry where
  slice : Nat
  epoch : BitVec 16
  first : Nat
  level : Nat
  dropped : Bool
  poison : Bool
  degraded : Bool
  stragglers : Nat
  hits : Nat
  digest : BitVec 64
  words : Nat
  deriving DecidableEq, Repr

/-- Merge, log and reef (05_merge_history.md). `head` counts the words written since the start of the run; `seals` holds
the seal times of the slices sealed and not yet closed, `decided` their reef levels, `full` the hits of the slices dropped
for want of a page (R137); `written` are the index entries of slices closed and not yet indexed; `owners` holds for each block
of the ring the slice that owned its first word when it was written (R141); `indexOld` are entries that the index ring still
holds and that no longer count (R43), `badIndex` the places of the ring whose CRC does not hold (R145). -/
structure History where
  buckets : Tab (List Hit)
  full : Tab Nat
  seals : Tab Tw
  arrivals : Nat
  firstSlice : Nat
  nextSeal : Option Nat
  lastSeal : Option Tw
  nextClose : Nat
  nextIndex : Nat
  runStop : Option Nat
  decided : Tab Nat
  log : Tab Word
  owners : Tab Nat
  poisoned : List Nat
  counted : List Nat
  head : Nat
  written : Tab IndexEntry
  index : Tab IndexEntry
  indexOld : Tab IndexEntry
  badIndex : List Nat
  firstRun : Nat
  oldest : Nat
  newest : Nat
  stragglers : Tab Nat
  nextFinal : Nat
  stragLog : Tab (BitVec 128)
  stragHead : Nat
  stragSlice : Nat
  stragCount : Nat
  losses : Tab Nat
  lossSlice : Nat
  lossLog : Tab (BitVec 128)
  lossHead : Nat
  reef : Nat
  clearRun : Nat
  highWater : Nat
  deriving DecidableEq, Repr

/-- A trigger bound to a slice (R159, R162). -/
structure Trig where
  source : TrigSource
  srcNum : Nat
  cls : Nat
  time : Tw
  wstart : Tw
  wend : Tw
  tag : BitVec 32
  session : Option Nat
  order : Nat
  alertSeq : BitVec 64
  deriving DecidableEq, Repr

/-- An open context (R166 to R169, R265): `wstart` is the start of the open piece, `wend` the end of the whole window. -/
structure Context where
  cls : Nat
  wstart : Tw
  wend : Tw
  number : BitVec 32
  cont : Nat
  trig : Trig
  count : Nat
  binding : Nat
  rank : Nat
  trimmed : Bool
  stopped : Bool
  hollow : Bool
  pin : Nat
  epoch : BitVec 64
  firstQueue : Option Nat
  deriving DecidableEq, Repr

/-- The latest context of a class (R166): its window, whether it is open, its record number. -/
structure Latest where
  ls : Tw
  le : Tw
  ctx : Option Nat
  number : BitVec 32
  deriving DecidableEq, Repr

/-- One class engine. -/
structure ClassRec where
  prescale : Nat
  latest : Option Latest
  next : BitVec 32
  deriving DecidableEq, Repr

/-- One multiplicity unit (R161): qualifying hits, oldest first, and the time of the last trigger. -/
structure Mult where
  list : List (Tw × Nat)
  last : Option Tw
  deriving DecidableEq, Repr

/-- A closed record in the record-header ring (R178, R179); `marks` holds the marker flags 47:44 of its covered slices as
they stood at its close, `words` the log words that its covered slices span (R253); while it is in transfer `reads` holds the
first words of the log blocks that its body needs, and `readC` the raw count at which the reading began (R147). -/
structure Record where
  seq : BitVec 64
  wstart : Tw
  wend : Tw
  trig : Trig
  flags : BitVec 16
  covered : Nat
  count : Nat
  number : BitVec 32
  cont : Nat
  binding : Nat
  epoch : BitVec 64
  stragglers : Nat
  marks : List (BitVec 4)
  words : Nat
  pin : Option Nat
  queue : Nat
  firstQueue : Nat
  closing : Nat
  closedAt : Tw
  overflowed : Bool
  replay : Bool
  hollow : Bool
  inTransfer : Bool
  reads : List Nat
  readC : BitVec 64
  deriving DecidableEq, Repr

/-- The trigger engine (06_triggers_records.md); `freed` holds what the entries of free contexts show behind their State byte
(R265). -/
structure Trigger where
  bound : Tab (List Trig)
  classes : Tab ClassRec
  contexts : Tab Context
  freed : Tab (List Byte)
  mults : Tab Mult
  recordSeq : BitVec 64
  records : Tab Record
  refused : List (Nat × Nat × Nat)
  alertSeq : Tab (BitVec 64)
  arrivals : Nat
  highWater : Nat
  deriving DecidableEq, Repr

/-- A result of a packet (R201): a feature hit or a primitive. -/
inductive Result where
  | hit (tw : Tw) (flags : BitVec 4) (payload : BitVec 20)
  | prim (tw : Tw) (cls : Nat)
  deriving DecidableEq, Repr

/-- The registers of a core (R194). -/
structure Regs where
  d : Vector (BitVec 24) 8
  a : Vector (BitVec 56) 4
  p : Vector (BitVec 16) 8
  n : Vector (BitVec 16) 8
  lc : Vector (BitVec 16) 4
  sr : BitVec 16
  pc : Nat
  loops : List (Nat × Nat)
  deriving DecidableEq, Repr

/-- One feature processor (07_fp_architecture.md); `loops` of `Regs` holds start and end of the open levels, the
outermost first. `loadFrom` is the slice of the latest load or initialisation, `offFrom` that from which the enable is cleared,
`loadKind` 1 a load and 2 an initialisation that waits, 3 and 4 under way; `reloadDue` says that a reload waits for a slice
boundary, `reloadNow` that the boundary has come (R211 to R213). -/
structure Core where
  state : CoreState
  imageId : BitVec 32
  slot : Nat
  rewritten : Bool
  entry : Nat
  prog : Tab (BitVec 48)
  x : Tab (BitVec 24)
  y : Tab (BitVec 24)
  badP : List Nat
  badX : List Nat
  badY : List Nat
  regs : Regs
  running : Option Packet
  budget : Nat
  results : List Result
  queue : List Packet
  loadFrom : Option Nat
  offFrom : Option Nat
  loadKind : Nat
  reloadDue : Bool
  reloadNow : Bool
  deriving DecidableEq, Repr

/-- A transfer in progress (R255): the record, its bytes, the descriptors used and the tag of the first. -/
structure Transfer where
  seq : BitVec 64
  bytes : List Byte
  firstDesc : Nat
  used : Nat
  tag : BitVec 32
  loss : Bool
  deriving DecidableEq, Repr

/-- One queue (R242 to R258). -/
structure Queue where
  descBase : BitVec 64
  complBase : BitVec 64
  descLog2 : Nat
  complLog2 : Nat
  vector : Nat
  modCount : Nat
  modTime : Nat
  startSeq : BitVec 32
  enable : Bool
  intr : Bool
  state : QueueState
  error : Nat
  descHead : Nat
  descTail : Nat
  complTail : Nat
  complHead : Nat
  complSeq : BitVec 32
  delivered : BitVec 64
  fullCount : BitVec 32
  armed : Bool
  unsignalled : Nat
  firstAt : BitVec 64
  line : List Nat
  fetched : List Desc
  transfer : Option Transfer
  deriving DecidableEq, Repr

/-- The host port (09_host_port.md); `msix` holds the entries of the MSI-X table whose bits are not those after a reset,
each as address, data and vector control from bit 0 up; `relaxed` is the Device Control enable of Relaxed Ordering, `mps`
Max_Payload_Size in bytes (R236). -/
structure HostPort where
  gen : Nat
  width : Nat
  busMaster : Bool
  d0 : Bool
  relaxed : Bool
  mps : Nat
  queues : Tab Queue
  deal : Tab Nat
  msix : Tab (BitVec 128)
  msixPending : List Nat
  nextGroup : Nat
  deriving DecidableEq, Repr

/-- The lease that this unit holds or waits for (R323, R324). -/
structure Lease where
  term : BitVec 32
  renewed : BitVec 64
  deriving DecidableEq, Repr

/-- A DATA frame of the stay link that is not acknowledged (R317): its sequence, when it was sent, and its part of the byte
stream. -/
structure StayFrame where
  seq : BitVec 10
  sentC : BitVec 64
  bytes : List Byte
  deriving DecidableEq, Repr

/-- Twin operation (12_twin_operation.md). `txQueue` holds the frames that wait for room among the 256 kept or for a lane,
`lane` the lane at which the round-robin goes on, `rxBytes` the bytes received in order and not yet taken as messages (R316,
R317). -/
structure Twin where
  highest : BitVec 32
  lease : Option Lease
  waiting : Option (BitVec 32)
  takeoverAt : Option Nat
  helm : Bool
  ready : Nat
  partner : Option HelloMsg
  partnerUp : Bool
  deciding : Bool
  following : Bool
  msgNo : BitVec 32
  txSeq : BitVec 10
  unacked : List StayFrame
  txQueue : List (List Byte)
  lane : Nat
  rxSeq : Option (BitVec 10)
  rxBytes : List Byte
  slices : Tab (Nat × List FwdTrigger × List Placement)
  placed : List Placement
  digests : Tab (BitVec 64 × BitVec 64)
  snapNo : BitVec 64
  snapshot : Option Snapshot
  matchRun : Nat
  mismatchRun : Bool
  joinAt : Option Nat
  joining : Bool
  joinState : Bool
  joinFields : List (Nat × Nat)
  joinEpoch : BitVec 64
  joinImages : List (List Byte)
  takeoverC : Option Nat
  overdueDay : Nat
  waitC : BitVec 64
  grantReady : Nat
  lastRx : BitVec 64
  left : Bool
  seqs : Tab (BitVec 64)
  sliceRx : Nat
  deriving DecidableEq, Repr

/-- What a queued event of a timing input does (R354, R355): a timestamp, a start or stop of the gate, an edge lost to busy
interpolators, or a commit that changes the gate. -/
inductive EdgeKind where
  | stamp | start | stop | busy | config
  deriving DecidableEq, Repr

/-- An event of a timing input waiting to be handled (R355); `rank` orders events of equal time. -/
structure Edge where
  kind : EdgeKind
  rank : Nat
  te : Tw
  falling : Bool
  interpB : Bool
  k : BitVec 8
  unlocked : Bool
  deriving DecidableEq, Repr

/-- A pending start of a gate (R355). -/
structure GateStart where
  edge : Edge
  missed : Bool
  timeout : Nat
  deriving DecidableEq, Repr

/-- A measured edge of a FREQUENCY input: its result's value and count, and FIRST (R356). -/
structure FreqResult where
  edge : Edge
  value : BitVec 64
  count : Nat
  first : Bool
  deriving DecidableEq, Repr

/-- One timing input (13_interval_timer.md). `busyA` and `busyB` hold the raw time, counted without wrapping, of the edge that
each interpolator measured last. `fEdges` counts the selected edges since the mode was set, `fCount` the prescaled edges since
the measured edge of time `fLast`; `fGate` is the boundary of the gate under way plus 1, 0 for none, `fWant` says that the gate
still waits for its edge, and `fFrom` is the slice of the latest commit from which the counts began anew. -/
structure Tin where
  busyA : Option Int
  busyB : Option Int
  lastB : Bool
  lockA : Bool
  lockB : Bool
  edges : List Edge
  pending : Option GateStart
  fEdges : Nat
  fCount : Nat
  fLast : Option Tw
  fResult : Option FreqResult
  fGate : Nat
  fWant : Bool
  fFrom : Option Nat
  resultNo : BitVec 32
  deriving DecidableEq, Repr

/-- What the monitor is doing (R366, R373 to R378). -/
inductive MonPhase where
  | off | waiting | idle | settling | converting | checking
  deriving DecidableEq, Repr

/-- An entry of a sequence (R373). -/
structure MonEntry where
  channel : Nat
  rate : Nat
  settle : Nat
  count : Nat
  deriving DecidableEq, Repr

/-- The phase P half of an alternated conversion (R369): its code, whether it clipped, whether an excitation fault fell in
its window, and the raw count of its centre. -/
structure Half where
  code : Int
  clipped : Bool
  exc : Bool
  centre : BitVec 64
  deriving DecidableEq, Repr

/-- A result (R382) without its number. -/
structure MonResult where
  chan : Nat
  time : Tw
  code : Int
  range : Nat
  flags : BitVec 6
  entry : Nat
  deriving DecidableEq, Repr

/-- The monitor (14_monitor_front_end.md). `started` is the raw count at which the settling delay, the window or the check
under way began; `resume` is where an interrupted pass goes on; `injStarts` are the modulator edges of the injected starts
that were requested and not yet taken; `held` are the results that wait for a reload of the trim (R381). -/
structure Monitor where
  phase : MonPhase
  injected : Bool
  entry : Nat
  done : Nat
  half : Option Half
  passRunning : Bool
  latched : Bool
  passCount : Nat
  resume : Option (Nat × Nat × Option Half)
  checkDue : Bool
  injStarts : List (BitVec 64)
  injWait : Bool
  started : BitVec 64
  checked : List Nat
  broken : List Nat
  regular : List MonEntry
  injEntries : List MonEntry
  excStatus : BitVec 8
  excOff : BitVec 8
  excCleared : Tab (BitVec 64)
  trimValid : Bool
  trimError : Bool
  reload : Option (BitVec 64)
  held : List MonResult
  numbers : Tab Nat
  power : Bool
  deriving DecidableEq, Repr

/-- A lamp-bus command that is outstanding (R400). -/
structure LampCmd where
  frame : BitVec 32
  attempts : Nat
  sent : Bool
  deriving DecidableEq, Repr

/-- The light drive (15_light_drive.md); voltages in mV. -/
structure Light where
  ledOut : Nat
  ovp : Bool
  faults : BitVec 24
  samples : Tab Nat
  flashVolts : Tab Nat
  flashing : List Nat
  slotLit : BitVec 12
  lamp : Option LampCmd
  lampNo : BitVec 16
  flashAt : Option (Nat × Tw)
  flashOnBus : Bool
  flashed : List Nat
  deriving DecidableEq, Repr

/-- The whole state. `stat` holds the counters and plain status objects by their dictionary keys, `out` what the device
has sent (the newest first), `free` names the next free value (log entry 6). -/
structure State where
  pending : List Instr
  sys : Sys
  ctl : Control
  cfg : Cfg
  tb : Timebase
  eth : Vector EthPort 2
  pulse : Tab PulseGen
  ports : Tab Port
  stay : Tab Port
  groups : Tab LaneGroup
  hist : History
  trig : Trigger
  cores : Tab Core
  host : HostPort
  twin : Twin
  tins : Tab Tin
  mon : Monitor
  light : Light
  stat : Tab Nat
  out : List Out
  free : Nat
  deriving DecidableEq, Repr

/-- Why a step stops. No command of the table has a meaning that stops: the type is closed and its one constructor is
raised by no meaning. -/
inductive Fault where
  /-- Raised by nobody: every meaning answers a next state; safe. -/
  | none
  deriving DecidableEq, Repr

/-- Why a command has no meaning. -/
inductive Refusal where
  /-- A row of the table that has no meaning in the model yet, by its mnemonic; raised by `exec` only; safe. -/
  | notModelled (mnemonic : String)
  deriving DecidableEq, Repr

/-- The rates, delays and buffers of one Ethernet port at reset: nothing received. -/
def EthPort.empty : EthPort :=
  ⟨false, none, 0#64, none, [], false, 0, 0#64, 0, 0#64, none, none, ⟨0, 0⟩, none, 0, none, none, none, none, none, none, none, 0,
    none, none⟩

/-- A pulse generator with no schedule (R65: IDLE after BOOT). -/
def PulseGen.empty : PulseGen := ⟨.idle, none, [], [], false⟩

/-- Port timing before a port enters ACTIVE. -/
def Timing.empty : Timing :=
  ⟨.none, [], none, 0, [], 0, [], 0, true, false, none, 0, [], 0, 0, true, 0, [], none, false⟩

/-- A port that is disabled and has met no partner. -/
def Port.empty : Port :=
  ⟨.disabled, 0#64, false, 0, 0, 0, 0, 0, 0, 0#64, 0, false, [], [], false, none, 0#8, 0#10, none, 0, 0, [], 0, none, 0, [], none,
    none, 0, 0, ⟨0#31, 0⟩, ⟨0#58, false, 0⟩, ⟨0#58, false, 0⟩, Timing.empty⟩

/-- A lane group that is powered up. -/
def LaneGroup.empty : LaneGroup := ⟨0, 0#64⟩

/-- The history of a device that has not run since BOOT (log entry 4). -/
def History.empty : History :=
  ⟨[], [], [], 0, 0, none, none, 0, 0, none, [], [], [], [], [], 0, [], [], [], [], 0, 0, 0, [], 0, [], 0, 0, 0, [], 0, [], 0, 0, 0, 0⟩

/-- A class before its first context (R166). -/
def ClassRec.empty : ClassRec := ⟨0, none, 0#32⟩

/-- A multiplicity unit with an empty list (R161). -/
def Mult.empty : Mult := ⟨[], none⟩

/-- The registers of a core at packet start (R194), but for the values that the packet gives. -/
def Regs.empty : Regs :=
  ⟨Vector.replicate 8 0#24, Vector.replicate 4 0#56, (Vector.replicate 8 0#16).set 0 0x7000#16, Vector.replicate 8 1#16,
    Vector.replicate 4 0#16, 0#16, 0, []⟩

/-- A core that is off and was never loaded. -/
def Core.empty : Core :=
  ⟨.off, 0#32, 0, false, 0, [], [], [], [], [], [], Regs.empty, none, 0, [], [], none, none, 0, false, false⟩

/-- A queue whose entry is 0 (R242). -/
def Queue.empty : Queue :=
  ⟨0#64, 0#64, 0, 0, 0, 0, 0, 0#32, false, false, .disabled, 0, 0, 0, 0, 0, 0#32, 0#64, 0#32, false, 0, 0#64, [], [],
    none⟩

/-- A timing input that has measured nothing (log entry 4). -/
def Tin.empty : Tin := ⟨none, none, true, false, false, [], none, 0, 0, none, none, 0, false, none, 0#32⟩

/-- The monitor when PD44 is off (R377). -/
def Monitor.empty : Monitor :=
  ⟨.off, false, 0, 0, none, false, false, 0, none, false, [], false, 0#64, [], [], [], [], 0#8, 0#8, [], true, false, none, [],
    [], false⟩

/-- The light drive when PD45 is off (R390). -/
def Light.empty : Light := ⟨0, false, 0#24, [], [], [], 0#12, none, 0#16, none, false, []⟩

/-- The timebase right after power-on reset release: C = 0 (R44), FREERUN with f = 0 (R58), no anchor (R49), REFCLK (R50). -/
def Timebase.empty : Timebase :=
  ⟨0#64, 0, 0, 0#64, 0, .freerun, [], 0, 0, 0, 0, 0, [], none, none, none, false, false, 0#64, 0, 0, ⟨0, 0⟩, none, .refclk,
    false, false, 0⟩

/-- Control with no session, no request and an empty journal (R279, R290). -/
def Control.empty : Control :=
  ⟨0#32, [], 0, 0#32, [], [], [], 0, 0, 0, 0, false, [], [], [], [], 0#32⟩

/-- The configuration at its factory defaults, epoch 0 (R287), no store copy (log entry 9). -/
def Cfg.empty : Cfg :=
  ⟨[], none, [], [], [⟨0, 0#64, []⟩], [], 0#64, 255, 0, [], none, none, none, none, none, 0, [], 0#32, 0#32, 0,
    none, 0⟩

/-- The trigger engine after BOOT. -/
def Trigger.empty : Trigger := ⟨[], [], [], [], [], 0#64, [], [], [], 0, 0⟩

/-- The host port with its link down (R420); every MSI-X vector is masked (log entry 8). -/
def HostPort.empty : HostPort := ⟨0, 0, false, false, false, 128, [], [], [], [], 0⟩

/-- Twin state of a unit that has seen no lease message. -/
def Twin.empty : Twin :=
  ⟨0#32, none, none, none, false, 0, none, false, false, false, 0#32, 0#10, [], [], 0, none, [], [], [], [], 0#64, none, 0, false, none,
    false, false, [], 0#64, [], none, 0, 0#64, 0, 0#64, false, [], 0⟩

/-- Device state right after power-on reset release (R28, R417): BOOT, all supervised rails in range, straps as the
pull resistors leave them (R412: node 127, BOOT_HOLD low; log entry 3), IDCODE loaded (R421). -/
def Sys.afterPowerOn (straps : BitVec 8) : Sys :=
  ⟨.boot, .solo, 0x1FF#9, straps, straps, straps.getLsbD 7, 0, false, 0x01#8, 0#32, false, false, 0#16, 0#16, 0#16,
    true, false, false, true, true, 0#2, none, false, false⟩

/-- The machine right after reset: power-on reset has been released and BOOT has begun (log entry 3). -/
def State.reset : State :=
  { pending := []
    sys := Sys.afterPowerOn 0x7F#8
    ctl := Control.empty
    cfg := Cfg.empty
    tb := Timebase.empty
    eth := Vector.replicate 2 EthPort.empty
    pulse := []
    ports := []
    stay := []
    groups := []
    hist := History.empty
    trig := Trigger.empty
    cores := []
    host := HostPort.empty
    twin := Twin.empty
    tins := []
    mon := Monitor.empty
    light := Light.empty
    stat := []
    out := []
    free := 0 }

end Sys2Proof.Machine
end

