-- ==== Sys2Proof/Machine/Flags.lean ====
section
/-! DEFINITION. The status register of a feature processor and every flag computation (R195, R222 to R226, R228). -/

namespace Sys2Proof.Machine

/-! ### Bits of SR (R195) -/

def srC : Nat := 0
def srV : Nat := 1
def srZ : Nat := 2
def srN : Nat := 3
def srG : Nat := 5
def srSS : Nat := 9
def srSAT : Nat := 10
def srRND : Nat := 11

/-- A bit vector with bit `n` set to `b`. -/
def putBit (sr : BitVec 16) (n : Nat) (b : Bool) : BitVec 16 :=
  if b then sr ||| (1#16 <<< n) else sr &&& ~~~(1#16 <<< n)

/-! ### Registers by number -/

def Regs.dreg (r : Regs) (i : BitVec 3) : BitVec 24 := r.d.get i.toFin
def Regs.setD (r : Regs) (i : BitVec 3) (v : BitVec 24) : Regs := { r with d := r.d.set i.toNat v i.isLt }
def Regs.acc (r : Regs) (i : BitVec 2) : BitVec 56 := r.a.get i.toFin
def Regs.setA (r : Regs) (i : BitVec 2) (v : BitVec 56) : Regs := { r with a := r.a.set i.toNat v i.isLt }
def Regs.ptr (r : Regs) (i : BitVec 3) : BitVec 16 := r.p.get i.toFin
def Regs.setP (r : Regs) (i : BitVec 3) (v : BitVec 16) : Regs := { r with p := r.p.set i.toNat v i.isLt }
def Regs.off (r : Regs) (i : BitVec 3) : BitVec 16 := r.n.get i.toFin
def Regs.setN (r : Regs) (i : BitVec 3) (v : BitVec 16) : Regs := { r with n := r.n.set i.toNat v i.isLt }
def Regs.cnt (r : Regs) (i : BitVec 2) : BitVec 16 := r.lc.get i.toFin
def Regs.setLC (r : Regs) (i : BitVec 2) (v : BitVec 16) : Regs := { r with lc := r.lc.set i.toNat v i.isLt }
def Regs.flag (r : Regs) (n : Nat) : Bool := r.sr.getLsbD n
def Regs.setSr (r : Regs) (v : BitVec 16) : Regs := { r with sr := v }

/-- SR as it reads: bits 15:12 show the open levels (R195). -/
def Regs.srRead (r : Regs) : BitVec 16 :=
  r.sr ||| (BitVec.ofNat 16 (2 ^ r.loops.length - 1) <<< 12)

/-! ### Accumulator arithmetic (R222 to R225) -/

/-- A data value placed in an accumulator: d * 2^24 (R222). -/
def placed (d : BitVec 24) : Int := d.toInt * 2 ^ 24

/-- The fractional product of two data values: exact, shifted left by 1 (R223). -/
def fracProd (s t : BitVec 24) : Int := 2 * (s.toInt * t.toInt)

/-- The exact result lies in the 56-bit range. -/
def accFits (e : Int) : Bool := decide (-(2 ^ 55) ≤ e ∧ e < 2 ^ 55)

/-- What an accumulator takes from an exact result (R224). -/
def accValue (sat : Bool) (e : Int) : BitVec 56 :=
  if accFits e then BitVec.ofInt 56 e
  else if sat then (if 0 ≤ e then 0x7FFFFFFFFFFFFF#56 else 0x80000000000000#56)
  else BitVec.ofInt 56 e

/-- The exact value lies outside the fractional range: bits 55:47 are not all equal (R224). -/
def outOfFrac (e : Int) : Bool := decide (¬(-(2 ^ 47) ≤ e ∧ e < 2 ^ 47))

/-- The carry out of bit 55 of the unsigned addition of two operands as placed (R227). -/
def carry56 (a b : BitVec 56) : Bool := decide (2 ^ 56 ≤ a.toNat + b.toNat)

/-- The borrow from bit 55 (R227). -/
def borrow56 (a b : BitVec 56) : Bool := decide (a.toNat < b.toNat)

/-- Round to a multiple of 2^24; a half goes to the even value, or away from zero when RND is 1 (R225). -/
def round24 (rnd : Bool) (e : Int) : Int :=
  let q := e / 2 ^ 24
  let r := e % 2 ^ 24
  if r < 2 ^ 23 then q * 2 ^ 24
  else if 2 ^ 23 < r then (q + 1) * 2 ^ 24
  else if rnd then (if 0 ≤ e then (q + 1) * 2 ^ 24 else q * 2 ^ 24)
  else if q % 2 = 0 then q * 2 ^ 24 else (q + 1) * 2 ^ 24

/-- SR after an accumulator operation with result `v` (R224): SS keeps its value or is set by an overflow. -/
def srAcc (sr : BitVec 16) (v : BitVec 56) (ov c : Bool) : BitVec 16 :=
  let sr := putBit sr srN v.msb
  let sr := putBit sr srZ (decide (v = 0#56))
  let sr := putBit sr srG (outOfFrac v.toInt)
  let sr := putBit sr srV ov
  let sr := putBit sr srC c
  if ov then putBit sr srSS true else sr

/-- Write an exact result to Aa with its flags (R224). -/
def Regs.putAcc (r : Regs) (a : BitVec 2) (e : Int) (c : Bool) : Regs :=
  let v := accValue (r.flag srSAT) e
  (r.setA a v).setSr (srAcc r.sr v (!accFits e) c)

/-- A dual operation writes Aa and its partner; N, Z, G and C come from Aa, V and SS from either (R224). -/
def Regs.putDual (r : Regs) (a : BitVec 2) (e : Int) (c : Bool) (e' : Int) : Regs :=
  let v := accValue (r.flag srSAT) e
  let v' := accValue (r.flag srSAT) e'
  ((r.setA a v).setA (a ^^^ 1#2) v').setSr (srAcc r.sr v (!accFits e || !accFits e') c)

/-- The flags of a comparison from the exact difference; V and C are cleared (R224). -/
def srCmp (sr : BitVec 16) (e : Int) : BitVec 16 :=
  let sr := putBit sr srN (decide (e < 0))
  let sr := putBit sr srZ (decide (e = 0))
  let sr := putBit sr srG (outOfFrac e)
  putBit (putBit sr srV false) srC false

/-! ### Data-register flags (R228) -/

/-- N and Z from a 24-bit result. -/
def srNZ (sr : BitVec 16) (v : BitVec 24) : BitVec 16 :=
  putBit (putBit sr srN v.msb) srZ (decide (v = 0#24))

/-- N, Z, V and C of a 24-bit sum. -/
def srAdd (sr : BitVec 16) (x y : BitVec 24) : BitVec 16 :=
  let v := x + y
  putBit (putBit (srNZ sr v) srV (decide (x.msb = y.msb ∧ v.msb ≠ x.msb))) srC (decide (2 ^ 24 ≤ x.toNat + y.toNat))

/-- N, Z, V and C (the borrow) of a 24-bit difference. -/
def srSub (sr : BitVec 16) (x y : BitVec 24) : BitVec 16 :=
  let v := x - y
  putBit (putBit (srNZ sr v) srV (decide (x.msb ≠ y.msb ∧ v.msb ≠ x.msb))) srC (decide (x.toNat < y.toNat))

/-- A condition code holds (R230); codes 11 to 15 are illegal (R221). -/
def condHolds (sr : BitVec 16) (cc : BitVec 4) : Bool :=
  let c := sr.getLsbD srC
  let v := sr.getLsbD srV
  let z := sr.getLsbD srZ
  let n := sr.getLsbD srN
  match cc.toNat with
  | 0 => true
  | 1 => z
  | 2 => !z
  | 3 => !n && !z
  | 4 => !n
  | 5 => n
  | 6 => n || z
  | 7 => c
  | 8 => !c
  | 9 => v
  | 10 => sr.getLsbD srSS
  | _ => false

end Sys2Proof.Machine
end

