-- ==== Sys2Proof/Machine/Operands.lean ====
section
/-! DEFINITION. The operand forms of the feature processors: pointer modes (R196), the data memories and what they
ignore (R191 to R193), the parallel moves (R219, R220), register codes (R229), and the loops (R197, R231). -/

namespace Sys2Proof.Machine

/-- What an instruction does next: fall through, jump to an address, go on behind a body that is not entered, close a
level that ends at an address, meet LOOP_DEPTH, or end the packet. -/
inductive Flow where
  | fall | goto (a : Nat) | skip (a : Nat) | leave (endAddr : Nat) | depth | done
  deriving DecidableEq, Repr

/-- The effect of an instruction on its core: the core but its pc and budget, the writes ignored under R193, the results
over 32 (R201), the words read that are uncorrectable (R204), and the flow. -/
structure FpResult where
  core : Core
  faults : Nat
  dropped : Nat
  bad : List (FpSpace × Nat)
  flow : Flow
  deriving DecidableEq, Repr

/-- An effect on registers only. -/
def Core.withRegs (c : Core) (r : Regs) : FpResult := ⟨{ c with regs := r }, 0, 0, [], .fall⟩

/-- The address used and the pointer afterwards, by mode (R196); modes 6 and 7 are illegal (R221). -/
def Regs.ea (r : Regs) (o : MemOp) : BitVec 16 × BitVec 16 :=
  let p := r.ptr o.p
  let n := r.off o.p
  match o.m.toNat with
  | 0 => (p, p)
  | 1 => (p, p + 1)
  | 2 => (p, p - 1)
  | 3 => (p, p + n)
  | 4 => (p, p - n)
  | _ => (p + n, p)

/-- The memory address: bits 14:0 of the address used (R196). -/
def memAddr (a : BitVec 16) : Nat := a.toNat % 0x8000

/-- The port whose packet the core handles. -/
def Core.pkPort (c : Core) : Nat := (c.running.map (·.port)).getD 0

/-- The physical Y word of an address: the port bank, nothing, or the constants (R191, R192). -/
def Core.yPhys (c : Core) (a : BitVec 16) : Option Nat :=
  let m := memAddr a
  if m < 0x0C00 then some (c.pkPort % 8 * 0x0C00 + m)
  else if m < 0x6000 then none
  else some m

def Core.readX (c : Core) (a : BitVec 16) : BitVec 24 := Tab.get 0#24 c.x (memAddr a)

/-- A read of Y 0x0C00 to 0x5FFF returns 0 (R193). -/
def Core.readY (c : Core) (a : BitVec 16) : BitVec 24 :=
  match c.yPhys a with
  | some k => Tab.get 0#24 c.y k
  | none => 0#24

/-- The uncorrectable word that a read of X or Y meets (R204). -/
def Core.badRead (c : Core) (isY : Bool) (a : BitVec 16) : List (FpSpace × Nat) :=
  if isY then
    match c.yPhys a with
    | some k => if c.badY.contains k then [(.y, k)] else []
    | none => []
  else if c.badX.contains (memAddr a) then [(.x, memAddr a)] else []

/-- A write to X: the packet window ignores it (R193). -/
def Core.writeX (c : Core) (a : BitVec 16) (v : BitVec 24) : Core × Nat :=
  let m := memAddr a
  if 0x7000 ≤ m ∧ m < 0x7800 then (c, 1)
  else ({ c with x := Tab.set 0#24 c.x m v, badX := c.badX.filter (· ≠ m) }, 0)

/-- A write to Y: only the port bank takes it (R193). -/
def Core.writeY (c : Core) (a : BitVec 16) (v : BitVec 24) : Core × Nat :=
  let m := memAddr a
  if m < 0x0C00 then
    let k := c.pkPort % 8 * 0x0C00 + m
    ({ c with y := Tab.set 0#24 c.y k v, badY := c.badY.filter (· ≠ k) }, 0)
  else (c, 1)

def Core.setPtr (c : Core) (p : BitVec 3) (v : BitVec 16) : Core := { c with regs := c.regs.setP p v }

/-- A load of format B: register, pointer and memory (R228). -/
def fpLoad (isY : Bool) (d : BitVec 3) (o : MemOp) (c : Core) : FpResult :=
  let e := c.regs.ea o
  let v := if isY then c.readY e.1 else c.readX e.1
  ⟨{ c with regs := (c.regs.setD d v).setP o.p e.2 }, 0, 0, c.badRead isY e.1, .fall⟩

/-- A store of format B; the pointer moves also when the write is ignored (R193, R228). -/
def fpStore (isY : Bool) (d : BitVec 3) (o : MemOp) (c : Core) : FpResult :=
  let e := c.regs.ea o
  let w := if isY then c.writeY e.1 (c.regs.dreg d) else c.writeX e.1 (c.regs.dreg d)
  ⟨w.1.setPtr o.p e.2, w.2, 0, [], .fall⟩

/-- What a parallel store sends: a data register, or the upper word of an accumulator as it stands (R219, R226). -/
def Regs.moveSource (r : Regs) (reg : BitVec 4) : BitVec 24 :=
  if reg.toNat < 8 then r.dreg (reg.setWidth 3) else (r.acc (reg.setWidth 2)).extractLsb' 24 24

/-- One parallel move: operands as `c0` holds them at the start of the cycle, results into `c` (R220). -/
def applyMove (c0 : Core) (isY : Bool) (m : Move) (c : Core) : FpResult :=
  if !m.enable then ⟨c, 0, 0, [], .fall⟩
  else
    let e := c0.regs.ea ⟨m.ptr, m.mode.setWidth 3⟩
    let w := if m.store then
        (if isY then c.writeY e.1 (c0.regs.moveSource m.reg) else c.writeX e.1 (c0.regs.moveSource m.reg))
      else
        let v := if isY then c0.readY e.1 else c0.readX e.1
        ({ c with regs := c.regs.setD (m.reg.setWidth 3) v }, 0)
    let c2 := if m.mode = 0#2 then w.1 else w.1.setPtr m.ptr e.2
    ⟨c2, w.2, 0, if m.store then [] else c0.badRead isY e.1, .fall⟩

/-- A format A word: the operation and the two moves, all operands read first (R220). -/
def fmtA (op : FmtA → Regs → Regs) (f : FmtA) (c : Core) : FpResult :=
  let r1 := applyMove c false f.x { c with regs := op f c.regs }
  let r2 := applyMove c true f.y r1.core
  ⟨r2.core, r1.faults + r2.faults, 0, r1.bad ++ r2.bad, .fall⟩

/-- A register by its code (R229): N sign-extended, the others zero-extended. -/
def Regs.readCode (r : Regs) (s : BitVec 5) : BitVec 24 :=
  let k := s.toNat
  if k < 8 then (r.ptr (s.setWidth 3)).setWidth 24
  else if k < 16 then (r.off (s.setWidth 3)).signExtend 24
  else if k < 20 then (r.cnt (s.setWidth 2)).setWidth 24
  else r.srRead.setWidth 24

/-- A write of a register by its code (R229): of SR only bits 11:9. -/
def Regs.writeCode (r : Regs) (d : BitVec 5) (v : BitVec 16) : Regs :=
  let k := d.toNat
  if k < 8 then r.setP (d.setWidth 3) v
  else if k < 16 then r.setN (d.setWidth 3) v
  else if k < 20 then r.setLC (d.setWidth 2) v
  else r.setSr ((r.sr &&& 0xF1FF#16) ||| (v &&& 0x0E00#16))

/-- The loop counter of a level. -/
def Regs.level (r : Regs) (k : Nat) : BitVec 16 := r.cnt (BitVec.ofNat 2 k)

/-- The end of a level at `pc`, innermost first (R197, R229): `inner` holds the open levels, the innermost first. -/
def loopEnd (pc : Nat) : List (Nat × Nat) → Regs → Regs
  | [], r => { r with loops := [], pc := pc + 1 }
  | (start, e) :: outer, r =>
    if e = pc then
      if 1 < (r.level outer.length).toNat then
        { (r.setLC (BitVec.ofNat 2 outer.length) (r.level outer.length - 1)) with
          loops := ((start, e) :: outer).reverse, pc := start }
      else loopEnd pc outer r
    else { r with loops := ((start, e) :: outer).reverse, pc := pc + 1 }

/-- A jump closes every level whose body does not hold the target, and every level inside it (R197). -/
def jumpTo (r : Regs) (target : Nat) : Regs :=
  { r with loops := r.loops.takeWhile (fun l => decide (l.1 ≤ target ∧ target ≤ l.2)), pc := target }

/-- Where a core goes after an instruction at `r.pc` (R197, R231). -/
def afterInstr (r : Regs) : Flow → Regs
  | .fall => loopEnd r.pc r.loops.reverse r
  | .goto a => jumpTo r a
  | .skip a => { r with pc := a }
  | .leave e => loopEnd e r.loops.reverse r
  | .depth => r
  | .done => { r with loops := [] }

/-- LOOP and LOOPR (R197): a count of 0 goes on after the end address and opens no level. -/
def fpLoop (count : BitVec 16) (n : Nat) (c : Core) : FpResult :=
  let r := c.regs
  let k := r.loops.length
  if count = 0#16 then ⟨c, 0, 0, [], .skip (r.pc + n + 1)⟩
  else if 4 ≤ k then ⟨c, 0, 0, [], .depth⟩
  else ⟨{ c with regs := { (r.setLC (BitVec.ofNat 2 k) count) with loops := r.loops ++ [(r.pc + 1, r.pc + n)] } },
    0, 0, [], .fall⟩

/-- A result of a packet; the 33rd and later ones are dropped and counted (R201). -/
def fpResultOf (x : Result) (c : Core) : FpResult :=
  if c.results.length < 32 then ⟨{ c with results := c.results ++ [x] }, 0, 0, [], .fall⟩
  else ⟨c, 0, 1, [], .fall⟩

end Sys2Proof.Machine
end

