-- ==== Sys2Proof/Machine/FpDecode.lean ====
section
/-! DEFINITION. The 48-bit words of the feature processors (R217 to R219, R227, R228): what is illegal (R221), the decoder
and the encoder. Reserved bits and bits of no operand are ignored by the decoder and 0 from the encoder (R8, R217). -/

namespace Sys2Proof.Machine

/-- A field of `n` bits from bit `lo` up. -/
def fld (w : Nat) (lo n : Nat) : BitVec n := BitVec.ofNat n (w / 2 ^ lo)

/-- A move field of a format A word from its 11 bits (R219). -/
def moveOf (w lo : Nat) : Move :=
  ⟨decide (w / 2 ^ (lo + 10) % 2 = 1), decide (w / 2 ^ (lo + 9) % 2 = 1), fld w (lo + 5) 4, fld w (lo + 2) 3, fld w lo 2⟩

/-- The 11 bits of a move field (R219). -/
def moveBits (m : Move) : Nat :=
  bnat m.enable * 1024 + bnat m.store * 512 + m.reg.toNat * 32 + m.ptr.toNat * 4 + m.mode.toNat

/-- A move register code is legal (R219, R221). -/
def moveLegal (m : Move) : Bool := !m.enable || decide (m.reg.toNat < (if m.store then 12 else 8))

/-- The moves of a word are legal together (R221). -/
def fmtALegal (f : FmtA) : Bool :=
  moveLegal f.x && moveLegal f.y &&
  !(f.x.enable && f.y.enable &&
    ((!f.x.store && !f.y.store && decide (f.x.reg = f.y.reg)) ||
     (decide (f.x.ptr = f.y.ptr) && decide (f.x.mode ≠ 0#2) && decide (f.y.mode ≠ 0#2))))

/-- A memory mode of a format B operand is legal (R221). -/
def memLegal (o : MemOp) : Bool := decide (o.m.toNat < 6)

/-- The fields of a format A word (R218). -/
def fmtAOf (w : Nat) : FmtA :=
  ⟨fld w 39 2, fld w 36 3, fld w 33 3, fld w 30 3, fld w 27 3, moveOf w 11, moveOf w 0⟩

/-- A format A word (R218). -/
def fmtAWord (op : Nat) (f : FmtA) : BitVec 48 :=
  BitVec.ofNat 48 (2 ^ 47 + op * 2 ^ 41 + f.a.toNat * 2 ^ 39 + f.s.toNat * 2 ^ 36 + f.t.toNat * 2 ^ 33 +
    f.u.toNat * 2 ^ 30 + f.v.toNat * 2 ^ 27 + moveBits f.x * 2 ^ 11 + moveBits f.y)

/-- The operations of format A (R227); 0x1C to 0x3F are illegal (R221). -/
def fmtAInstr (g : CoreId) (f : FmtA) : Nat → Option Instr
  | 0 => some (.mv g f)
  | 1 => some (.fmul g f)
  | 2 => some (.fmulr g f)
  | 3 => some (.fmac g f)
  | 4 => some (.fmacr g f)
  | 5 => some (.fmsb g f)
  | 6 => some (.fmsbr g f)
  | 7 => some (.zero g f)
  | 8 => some (.lda g f)
  | 9 => some (.addw g f)
  | 10 => some (.subw g f)
  | 11 => some (.cmpw g f)
  | 12 => some (.absa g f)
  | 13 => some (.nega g f)
  | 14 => some (.rnda g f)
  | 15 => some (.shl1 g f)
  | 16 => some (.shr1 g f)
  | 17 => some (.cpya g f)
  | 18 => some (.suma g f)
  | 19 => some (.difa g f)
  | 20 => some (.andw g f)
  | 21 => some (.orw g f)
  | 22 => some (.xorw g f)
  | 23 => some (.dmul g f)
  | 24 => some (.dmac g f)
  | 25 => some (.dmsb g f)
  | 26 => some (.dmacr g f)
  | 27 => some (.smac g f)
  | _ => none

/-- The instructions of format B (R228); 0x00 and 0x25 to 0x3F are illegal (R221). -/
def fmtBInstr (g : CoreId) (w : Nat) : Nat → Option Instr
  | 1 => some (.nop g)
  | 2 => some (.ldi g (fld w 38 3) (fld w 0 24))
  | 3 => some (.addi g (fld w 38 3) (fld w 0 24))
  | 4 => some (.andi g (fld w 38 3) (fld w 0 24))
  | 5 => some (.ori g (fld w 38 3) (fld w 0 24))
  | 6 => some (.addd g (fld w 38 3) (fld w 35 3) (fld w 32 3))
  | 7 => some (.subd g (fld w 38 3) (fld w 35 3) (fld w 32 3))
  | 8 => some (.srai g (fld w 38 3) (fld w 0 5))
  | 9 => some (.slli g (fld w 38 3) (fld w 0 5))
  | 10 => some (.ldp g (fld w 38 3) (fld w 0 16))
  | 11 => some (.ldn g (fld w 38 3) (fld w 0 16))
  | 12 => some (.lea g (fld w 38 3) (fld w 35 3) (fld w 0 16))
  | 13 => some (.rdr g (fld w 38 3) (fld w 33 5))
  | 14 => some (.wrr g (fld w 36 5) (fld w 33 3))
  | 15 => some (.geta g (fld w 38 3) (fld w 36 2) (fld w 34 2))
  | 16 => some (.ldx g (fld w 38 3) ⟨fld w 35 3, fld w 32 3⟩)
  | 17 => some (.stx g (fld w 38 3) ⟨fld w 35 3, fld w 32 3⟩)
  | 18 => some (.ldy g (fld w 38 3) ⟨fld w 35 3, fld w 32 3⟩)
  | 19 => some (.sty g (fld w 38 3) ⟨fld w 35 3, fld w 32 3⟩)
  | 20 => some (.maxs g (fld w 39 2) ⟨fld w 36 3, fld w 33 3⟩ (fld w 30 3))
  | 21 => some (.cmpm g (fld w 39 2) ⟨fld w 36 3, fld w 33 3⟩)
  | 22 => some (.ftap g (fld w 39 2) (fld w 36 3) (fld w 33 3))
  | 23 => some (.divs g (fld w 39 2) (fld w 36 3))
  | 24 => some (.imul g (fld w 39 2) (fld w 36 3) (fld w 33 3))
  | 25 => some (.imac g (fld w 39 2) (fld w 36 3) (fld w 33 3))
  | 26 => some (.sraa g (fld w 39 2) (fld w 0 6))
  | 27 => some (.slla g (fld w 39 2) (fld w 0 6))
  | 28 => some (.loop g (fld w 14 16) (fld w 0 14))
  | 29 => some (.loopr g (fld w 38 3) (fld w 0 14))
  | 30 => some (.jump g (fld w 0 14))
  | 31 => some (.jcc g (fld w 37 4) (fld w 0 14))
  | 32 => some (.exitcc g (fld w 37 4))
  | 33 => some (.emit g (fld w 38 3) (fld w 35 3))
  | 34 => some (.prim g (fld w 38 3) (fld w 0 6))
  | 35 => some (.done g)
  | 36 => some (.satu g (fld w 38 3) (fld w 36 2))
  | _ => none

/-- An instruction is legal wherever it stands (R221); commands that are no instruction are not. -/
def fpLegal : Instr → Bool
  | .mv _ f => fmtALegal f
  | .fmul _ f => fmtALegal f
  | .fmulr _ f => fmtALegal f
  | .fmac _ f => fmtALegal f
  | .fmacr _ f => fmtALegal f
  | .fmsb _ f => fmtALegal f
  | .fmsbr _ f => fmtALegal f
  | .zero _ f => fmtALegal f
  | .lda _ f => fmtALegal f
  | .addw _ f => fmtALegal f
  | .subw _ f => fmtALegal f
  | .cmpw _ f => fmtALegal f
  | .absa _ f => fmtALegal f
  | .nega _ f => fmtALegal f
  | .rnda _ f => fmtALegal f
  | .shl1 _ f => fmtALegal f
  | .shr1 _ f => fmtALegal f
  | .cpya _ f => fmtALegal f
  | .suma _ f => fmtALegal f
  | .difa _ f => fmtALegal f
  | .andw _ f => fmtALegal f
  | .orw _ f => fmtALegal f
  | .xorw _ f => fmtALegal f
  | .dmul _ f => fmtALegal f
  | .dmac _ f => fmtALegal f
  | .dmsb _ f => fmtALegal f
  | .dmacr _ f => fmtALegal f
  | .smac _ f => fmtALegal f
  | .nop _ => true
  | .ldi _ _ _ => true
  | .addi _ _ _ => true
  | .andi _ _ _ => true
  | .ori _ _ _ => true
  | .addd _ _ _ _ => true
  | .subd _ _ _ _ => true
  | .srai _ _ _ => true
  | .slli _ _ _ => true
  | .ldp _ _ _ => true
  | .ldn _ _ _ => true
  | .lea _ _ _ _ => true
  | .rdr _ _ s => decide (s.toNat ≤ 20)
  | .wrr _ d _ => decide (d.toNat ≤ 20)
  | .geta _ _ _ x => decide (x ≠ 3#2)
  | .ldx _ _ ea => memLegal ea
  | .stx _ _ ea => memLegal ea
  | .ldy _ _ ea => memLegal ea
  | .sty _ _ ea => memLegal ea
  | .maxs _ _ ea k => memLegal ea && decide (k ≠ ea.p)
  | .cmpm _ _ ea => memLegal ea
  | .ftap _ _ i j => decide (i ≠ j)
  | .divs _ _ _ => true
  | .imul _ _ _ _ => true
  | .imac _ _ _ _ => true
  | .sraa _ _ _ => true
  | .slla _ _ _ => true
  | .loop _ _ n => decide (n ≠ 0#14)
  | .loopr _ _ n => decide (n ≠ 0#14)
  | .jump _ _ => true
  | .jcc _ cc _ => decide (cc.toNat ≤ 10)
  | .exitcc _ cc => decide (cc.toNat ≤ 10)
  | .emit _ _ _ => true
  | .prim _ _ _ => true
  | .done _ => true
  | .satu _ _ _ => true
  | _ => false

/-- The decoder: none for an illegal encoding (R217, R221). -/
def fpDecode (g : CoreId) (word : BitVec 48) : Option Instr :=
  let w := word.toNat
  let i := if w / 2 ^ 47 % 2 = 1 then fmtAInstr g (fmtAOf w) (w / 2 ^ 41 % 64) else fmtBInstr g w (w / 2 ^ 41 % 64)
  match i with
  | some i => if fpLegal i then some i else none
  | none => none

/-- The encoder, from the tables of R218, R227 and R228; 0, an illegal word, for a command that is no instruction. -/
def fpEncode : Instr → BitVec 48
  | .mv _ f => fmtAWord 0 f
  | .fmul _ f => fmtAWord 1 f
  | .fmulr _ f => fmtAWord 2 f
  | .fmac _ f => fmtAWord 3 f
  | .fmacr _ f => fmtAWord 4 f
  | .fmsb _ f => fmtAWord 5 f
  | .fmsbr _ f => fmtAWord 6 f
  | .zero _ f => fmtAWord 7 f
  | .lda _ f => fmtAWord 8 f
  | .addw _ f => fmtAWord 9 f
  | .subw _ f => fmtAWord 10 f
  | .cmpw _ f => fmtAWord 11 f
  | .absa _ f => fmtAWord 12 f
  | .nega _ f => fmtAWord 13 f
  | .rnda _ f => fmtAWord 14 f
  | .shl1 _ f => fmtAWord 15 f
  | .shr1 _ f => fmtAWord 16 f
  | .cpya _ f => fmtAWord 17 f
  | .suma _ f => fmtAWord 18 f
  | .difa _ f => fmtAWord 19 f
  | .andw _ f => fmtAWord 20 f
  | .orw _ f => fmtAWord 21 f
  | .xorw _ f => fmtAWord 22 f
  | .dmul _ f => fmtAWord 23 f
  | .dmac _ f => fmtAWord 24 f
  | .dmsb _ f => fmtAWord 25 f
  | .dmacr _ f => fmtAWord 26 f
  | .smac _ f => fmtAWord 27 f
  | .nop _ => BitVec.ofNat 48 (1 * 2 ^ 41)
  | .ldi _ d i => BitVec.ofNat 48 (2 * 2 ^ 41 + d.toNat * 2 ^ 38 + i.toNat)
  | .addi _ d i => BitVec.ofNat 48 (3 * 2 ^ 41 + d.toNat * 2 ^ 38 + i.toNat)
  | .andi _ d i => BitVec.ofNat 48 (4 * 2 ^ 41 + d.toNat * 2 ^ 38 + i.toNat)
  | .ori _ d i => BitVec.ofNat 48 (5 * 2 ^ 41 + d.toNat * 2 ^ 38 + i.toNat)
  | .addd _ d e f => BitVec.ofNat 48 (6 * 2 ^ 41 + d.toNat * 2 ^ 38 + e.toNat * 2 ^ 35 + f.toNat * 2 ^ 32)
  | .subd _ d e f => BitVec.ofNat 48 (7 * 2 ^ 41 + d.toNat * 2 ^ 38 + e.toNat * 2 ^ 35 + f.toNat * 2 ^ 32)
  | .srai _ d n => BitVec.ofNat 48 (8 * 2 ^ 41 + d.toNat * 2 ^ 38 + n.toNat)
  | .slli _ d n => BitVec.ofNat 48 (9 * 2 ^ 41 + d.toNat * 2 ^ 38 + n.toNat)
  | .ldp _ n i => BitVec.ofNat 48 (10 * 2 ^ 41 + n.toNat * 2 ^ 38 + i.toNat)
  | .ldn _ n i => BitVec.ofNat 48 (11 * 2 ^ 41 + n.toNat * 2 ^ 38 + i.toNat)
  | .lea _ d s i => BitVec.ofNat 48 (12 * 2 ^ 41 + d.toNat * 2 ^ 38 + s.toNat * 2 ^ 35 + i.toNat)
  | .rdr _ d s => BitVec.ofNat 48 (13 * 2 ^ 41 + d.toNat * 2 ^ 38 + s.toNat * 2 ^ 33)
  | .wrr _ d s => BitVec.ofNat 48 (14 * 2 ^ 41 + d.toNat * 2 ^ 36 + s.toNat * 2 ^ 33)
  | .geta _ d a x => BitVec.ofNat 48 (15 * 2 ^ 41 + d.toNat * 2 ^ 38 + a.toNat * 2 ^ 36 + x.toNat * 2 ^ 34)
  | .ldx _ d ea => BitVec.ofNat 48 (16 * 2 ^ 41 + d.toNat * 2 ^ 38 + ea.p.toNat * 2 ^ 35 + ea.m.toNat * 2 ^ 32)
  | .stx _ d ea => BitVec.ofNat 48 (17 * 2 ^ 41 + d.toNat * 2 ^ 38 + ea.p.toNat * 2 ^ 35 + ea.m.toNat * 2 ^ 32)
  | .ldy _ d ea => BitVec.ofNat 48 (18 * 2 ^ 41 + d.toNat * 2 ^ 38 + ea.p.toNat * 2 ^ 35 + ea.m.toNat * 2 ^ 32)
  | .sty _ d ea => BitVec.ofNat 48 (19 * 2 ^ 41 + d.toNat * 2 ^ 38 + ea.p.toNat * 2 ^ 35 + ea.m.toNat * 2 ^ 32)
  | .maxs _ a ea k => BitVec.ofNat 48 (20 * 2 ^ 41 + a.toNat * 2 ^ 39 + ea.p.toNat * 2 ^ 36 + ea.m.toNat * 2 ^ 33 + k.toNat * 2 ^ 30)
  | .cmpm _ a ea => BitVec.ofNat 48 (21 * 2 ^ 41 + a.toNat * 2 ^ 39 + ea.p.toNat * 2 ^ 36 + ea.m.toNat * 2 ^ 33)
  | .ftap _ a i j => BitVec.ofNat 48 (22 * 2 ^ 41 + a.toNat * 2 ^ 39 + i.toNat * 2 ^ 36 + j.toNat * 2 ^ 33)
  | .divs _ a d => BitVec.ofNat 48 (23 * 2 ^ 41 + a.toNat * 2 ^ 39 + d.toNat * 2 ^ 36)
  | .imul _ a s t => BitVec.ofNat 48 (24 * 2 ^ 41 + a.toNat * 2 ^ 39 + s.toNat * 2 ^ 36 + t.toNat * 2 ^ 33)
  | .imac _ a s t => BitVec.ofNat 48 (25 * 2 ^ 41 + a.toNat * 2 ^ 39 + s.toNat * 2 ^ 36 + t.toNat * 2 ^ 33)
  | .sraa _ a n => BitVec.ofNat 48 (26 * 2 ^ 41 + a.toNat * 2 ^ 39 + n.toNat)
  | .slla _ a n => BitVec.ofNat 48 (27 * 2 ^ 41 + a.toNat * 2 ^ 39 + n.toNat)
  | .loop _ c n => BitVec.ofNat 48 (28 * 2 ^ 41 + c.toNat * 2 ^ 14 + n.toNat)
  | .loopr _ d n => BitVec.ofNat 48 (29 * 2 ^ 41 + d.toNat * 2 ^ 38 + n.toNat)
  | .jump _ addr => BitVec.ofNat 48 (30 * 2 ^ 41 + addr.toNat)
  | .jcc _ cc addr => BitVec.ofNat 48 (31 * 2 ^ 41 + cc.toNat * 2 ^ 37 + addr.toNat)
  | .exitcc _ cc => BitVec.ofNat 48 (32 * 2 ^ 41 + cc.toNat * 2 ^ 37)
  | .emit _ d e => BitVec.ofNat 48 (33 * 2 ^ 41 + d.toNat * 2 ^ 38 + e.toNat * 2 ^ 35)
  | .prim _ d k => BitVec.ofNat 48 (34 * 2 ^ 41 + d.toNat * 2 ^ 38 + k.toNat)
  | .done _ => BitVec.ofNat 48 (35 * 2 ^ 41)
  | .satu _ d a => BitVec.ofNat 48 (36 * 2 ^ 41 + d.toNat * 2 ^ 38 + a.toNat * 2 ^ 36)
  | _ => 0#48

/-- The core of an instruction. -/
def fpCore : Instr → Option CoreId
  | .mv g _ => some g
  | .fmul g _ => some g
  | .fmulr g _ => some g
  | .fmac g _ => some g
  | .fmacr g _ => some g
  | .fmsb g _ => some g
  | .fmsbr g _ => some g
  | .zero g _ => some g
  | .lda g _ => some g
  | .addw g _ => some g
  | .subw g _ => some g
  | .cmpw g _ => some g
  | .absa g _ => some g
  | .nega g _ => some g
  | .rnda g _ => some g
  | .shl1 g _ => some g
  | .shr1 g _ => some g
  | .cpya g _ => some g
  | .suma g _ => some g
  | .difa g _ => some g
  | .andw g _ => some g
  | .orw g _ => some g
  | .xorw g _ => some g
  | .dmul g _ => some g
  | .dmac g _ => some g
  | .dmsb g _ => some g
  | .dmacr g _ => some g
  | .smac g _ => some g
  | .nop g => some g
  | .ldi g _ _ => some g
  | .addi g _ _ => some g
  | .andi g _ _ => some g
  | .ori g _ _ => some g
  | .addd g _ _ _ => some g
  | .subd g _ _ _ => some g
  | .srai g _ _ => some g
  | .slli g _ _ => some g
  | .ldp g _ _ => some g
  | .ldn g _ _ => some g
  | .lea g _ _ _ => some g
  | .rdr g _ _ => some g
  | .wrr g _ _ => some g
  | .geta g _ _ _ => some g
  | .ldx g _ _ => some g
  | .stx g _ _ => some g
  | .ldy g _ _ => some g
  | .sty g _ _ => some g
  | .maxs g _ _ _ => some g
  | .cmpm g _ _ => some g
  | .ftap g _ _ _ => some g
  | .divs g _ _ => some g
  | .imul g _ _ _ => some g
  | .imac g _ _ _ => some g
  | .sraa g _ _ => some g
  | .slla g _ _ => some g
  | .loop g _ _ => some g
  | .loopr g _ _ => some g
  | .jump g _ => some g
  | .jcc g _ _ => some g
  | .exitcc g _ => some g
  | .emit g _ _ => some g
  | .prim g _ _ => some g
  | .done g => some g
  | .satu g _ _ => some g
  | _ => none

/-- A loop's end address lies within program memory (R221): LOOP and LOOPR at address `pc`. -/
def loopFits (pc : Nat) : Instr → Bool
  | .loop _ _ n => decide (pc + n.toNat ≤ 0x3FFF)
  | .loopr _ _ n => decide (pc + n.toNat ≤ 0x3FFF)
  | _ => true

/-- The budget cycles of an instruction (R228): JUMP and J.cc cost 2. -/
def fpCost : Instr → Nat
  | .jump _ _ => 2
  | .jcc _ _ _ => 2
  | _ => 1

end Sys2Proof.Machine
end

