-- ==== Sys2Proof/Machine/FpEffects.lean ====
section
/-! DEFINITION. The effect of every feature-processor instruction on its core (R222 to R235), but for the budget and the
program counter: the format A operations (R227), the format B instructions (R228), MAXS, DIVS, FTAP, EMIT and PRIM. -/

namespace Sys2Proof.Machine

/-! ### Format A operations (R227): accumulators and SR -/

/-- s * t of a format A word (R223). -/
def prodST (f : FmtA) (r : Regs) : Int := fracProd (r.dreg f.s) (r.dreg f.t)

/-- u * v of a format A word (R223). -/
def prodUV (f : FmtA) (r : Regs) : Int := fracProd (r.dreg f.u) (r.dreg f.v)

/-- Accumulator Ab of CPYA, SUMA and DIFA: bits 34:33 (R218). -/
def accB (f : FmtA) (r : Regs) : BitVec 56 := r.acc (f.t.setWidth 2)

/-- Aa + e, with the carry of the 56-bit addition (R227). -/
def addAcc (a : BitVec 2) (e : Int) (r : Regs) : Regs :=
  r.putAcc a ((r.acc a).toInt + e) (carry56 (r.acc a) (BitVec.ofInt 56 e))

/-- Aa - e, with the borrow (R227). -/
def subAcc (a : BitVec 2) (e : Int) (r : Regs) : Regs :=
  r.putAcc a ((r.acc a).toInt - e) (borrow56 (r.acc a) (BitVec.ofInt 56 e))

def opMv (_f : FmtA) (r : Regs) : Regs := r
def opFmul (f : FmtA) (r : Regs) : Regs := r.putAcc f.a (prodST f r) false
def opFmulr (f : FmtA) (r : Regs) : Regs := r.putAcc f.a (round24 (r.flag srRND) (prodST f r)) false
def opFmac (f : FmtA) (r : Regs) : Regs := addAcc f.a (prodST f r) r
def opFmacr (f : FmtA) (r : Regs) : Regs :=
  r.putAcc f.a (round24 (r.flag srRND) ((r.acc f.a).toInt + prodST f r))
    (carry56 (r.acc f.a) (BitVec.ofInt 56 (prodST f r)))
def opFmsb (f : FmtA) (r : Regs) : Regs := subAcc f.a (prodST f r) r
def opFmsbr (f : FmtA) (r : Regs) : Regs :=
  r.putAcc f.a (round24 (r.flag srRND) ((r.acc f.a).toInt - prodST f r))
    (borrow56 (r.acc f.a) (BitVec.ofInt 56 (prodST f r)))
def opZero (f : FmtA) (r : Regs) : Regs := r.putAcc f.a 0 false
def opLda (f : FmtA) (r : Regs) : Regs := r.putAcc f.a (placed (r.dreg f.s)) false
def opAddw (f : FmtA) (r : Regs) : Regs := addAcc f.a (placed (r.dreg f.s)) r
def opSubw (f : FmtA) (r : Regs) : Regs := subAcc f.a (placed (r.dreg f.s)) r
def opCmpw (f : FmtA) (r : Regs) : Regs := r.setSr (srCmp r.sr ((r.acc f.a).toInt - placed (r.dreg f.s)))
def opAbsa (f : FmtA) (r : Regs) : Regs := r.putAcc f.a |(r.acc f.a).toInt| false
def opNega (f : FmtA) (r : Regs) : Regs := r.putAcc f.a (-(r.acc f.a).toInt) false
def opRnda (f : FmtA) (r : Regs) : Regs := r.putAcc f.a (round24 (r.flag srRND) (r.acc f.a).toInt) false
def opShl1 (f : FmtA) (r : Regs) : Regs := r.putAcc f.a ((r.acc f.a).toInt * 2) (r.acc f.a).msb
def opShr1 (f : FmtA) (r : Regs) : Regs := r.putAcc f.a ((r.acc f.a).toInt / 2) ((r.acc f.a).getLsbD 0)
def opCpya (f : FmtA) (r : Regs) : Regs := r.putAcc f.a (accB f r).toInt false
def opSuma (f : FmtA) (r : Regs) : Regs := addAcc f.a (accB f r).toInt r
def opDifa (f : FmtA) (r : Regs) : Regs := subAcc f.a (accB f r).toInt r

/-- A logic operation on bits 47:24 of Aa; the other bits keep their values (R227). -/
def logicAcc (op : BitVec 24 → BitVec 24 → BitVec 24) (f : FmtA) (r : Regs) : Regs :=
  let v := r.acc f.a
  let u := op (v.extractLsb' 24 24) (r.dreg f.s)
  r.putAcc f.a (v.extractLsb' 48 8 ++ u ++ v.extractLsb' 0 24).toInt false

def opAndw (f : FmtA) (r : Regs) : Regs := logicAcc (· &&& ·) f r
def opOrw (f : FmtA) (r : Regs) : Regs := logicAcc (· ||| ·) f r
def opXorw (f : FmtA) (r : Regs) : Regs := logicAcc (· ^^^ ·) f r

/-- The partner accumulator of a dual operation (R218). -/
def accP (f : FmtA) (r : Regs) : BitVec 56 := r.acc (f.a ^^^ 1#2)

def opDmul (f : FmtA) (r : Regs) : Regs := r.putDual f.a (prodST f r) false (prodUV f r)
def opDmac (f : FmtA) (r : Regs) : Regs :=
  r.putDual f.a ((r.acc f.a).toInt + prodST f r) (carry56 (r.acc f.a) (BitVec.ofInt 56 (prodST f r)))
    ((accP f r).toInt + prodUV f r)
def opDmsb (f : FmtA) (r : Regs) : Regs :=
  r.putDual f.a ((r.acc f.a).toInt - prodST f r) (borrow56 (r.acc f.a) (BitVec.ofInt 56 (prodST f r)))
    ((accP f r).toInt - prodUV f r)
def opDmacr (f : FmtA) (r : Regs) : Regs :=
  r.putDual f.a (round24 (r.flag srRND) ((r.acc f.a).toInt + prodST f r))
    (carry56 (r.acc f.a) (BitVec.ofInt 56 (prodST f r)))
    (round24 (r.flag srRND) ((accP f r).toInt + prodUV f r))
def opSmac (f : FmtA) (r : Regs) : Regs :=
  r.putAcc f.a ((r.acc f.a).toInt + prodST f r + prodUV f r) false

/-! ### Format B instructions (R228): registers -/

/-- Write a data register with SR. -/
def putD (d : BitVec 3) (v : BitVec 24) (sr : BitVec 16) (r : Regs) : Regs := (r.setD d v).setSr sr

def rLdi (d : BitVec 3) (i : BitVec 24) (r : Regs) : Regs := r.setD d i
def rAddi (d : BitVec 3) (i : BitVec 24) (r : Regs) : Regs := putD d (r.dreg d + i) (srAdd r.sr (r.dreg d) i) r
def rAndi (d : BitVec 3) (i : BitVec 24) (r : Regs) : Regs := putD d (r.dreg d &&& i) (srNZ r.sr (r.dreg d &&& i)) r
def rOri (d : BitVec 3) (i : BitVec 24) (r : Regs) : Regs := putD d (r.dreg d ||| i) (srNZ r.sr (r.dreg d ||| i)) r
def rAddd (d e f : BitVec 3) (r : Regs) : Regs :=
  putD d (r.dreg e + r.dreg f) (srAdd r.sr (r.dreg e) (r.dreg f)) r
def rSubd (d e f : BitVec 3) (r : Regs) : Regs :=
  putD d (r.dreg e - r.dreg f) (srSub r.sr (r.dreg e) (r.dreg f)) r
def rSrai (d : BitVec 3) (n : BitVec 5) (r : Regs) : Regs :=
  let v := (r.dreg d).sshiftRight n.toNat
  putD d v (srNZ r.sr v) r
def rSlli (d : BitVec 3) (n : BitVec 5) (r : Regs) : Regs :=
  let v := (r.dreg d) <<< n.toNat
  putD d v (srNZ r.sr v) r
def rLdp (n : BitVec 3) (i : BitVec 16) (r : Regs) : Regs := r.setP n i
def rLdn (n : BitVec 3) (i : BitVec 16) (r : Regs) : Regs := r.setN n i
def rLea (d s : BitVec 3) (i : BitVec 16) (r : Regs) : Regs := r.setP d (r.ptr s + i)
def rRdr (d : BitVec 3) (s : BitVec 5) (r : Regs) : Regs := r.setD d (r.readCode s)
def rWrr (d : BitVec 5) (s : BitVec 3) (r : Regs) : Regs := r.writeCode d ((r.dreg s).setWidth 16)

/-- A part of an accumulator: lower word, upper word, or the guard byte sign-extended (R228). -/
def accPart (v : BitVec 56) (x : BitVec 2) : BitVec 24 :=
  match x.toNat with
  | 0 => v.extractLsb' 0 24
  | 1 => v.extractLsb' 24 24
  | _ => (v.extractLsb' 48 8).signExtend 24

def rGeta (d : BitVec 3) (a x : BitVec 2) (r : Regs) : Regs := r.setD d (accPart (r.acc a) x)

/-- One step of unsigned division; V, G and SS keep their values (R233; log entry 20). -/
def rDivs (a : BitVec 2) (d : BitVec 3) (r : Regs) : Regs :=
  let v := r.acc a <<< 1
  let dd := (r.dreg d).setWidth 56
  let hit := decide ((r.dreg d).toNat ≤ (v.extractLsb' 24 32).toNat)
  let w := if hit then (v - (dd <<< 24)) ||| 1#56 else v
  (r.setA a w).setSr (putBit (putBit (putBit r.sr srN w.msb) srZ (decide (w = 0#56))) srC hit)

def rImul (a : BitVec 2) (s t : BitVec 3) (r : Regs) : Regs :=
  r.putAcc a ((r.dreg s).toInt * (r.dreg t).toInt) false
def rImac (a : BitVec 2) (s t : BitVec 3) (r : Regs) : Regs :=
  addAcc a ((r.dreg s).toInt * (r.dreg t).toInt) r

/-- The shift count of SRAA and SLLA: above 55 acts as 55 (R228). -/
def shiftCount (n : BitVec 6) : Nat := min n.toNat 55

/-- C is the last bit out; 0 when no bit goes out (log entry 20). -/
def rSraa (a : BitVec 2) (n : BitVec 6) (r : Regs) : Regs :=
  let k := shiftCount n
  r.putAcc a ((r.acc a).toInt / 2 ^ k) (decide (k ≠ 0) && (r.acc a).getLsbD (k - 1))
def rSlla (a : BitVec 2) (n : BitVec 6) (r : Regs) : Regs :=
  let k := shiftCount n
  r.putAcc a ((r.acc a).toInt * 2 ^ k) (decide (k ≠ 0) && (r.acc a).getLsbD (56 - k))

/-- The upper word of an accumulator, limited (R226). -/
def limited (v : BitVec 56) : BitVec 24 :=
  if outOfFrac v.toInt then (if v.msb then 0x800000#24 else 0x7FFFFF#24) else v.extractLsb' 24 24

def rSatu (d : BitVec 3) (a : BitVec 2) (r : Regs) : Regs :=
  let v := r.acc a
  let sr := srNZ r.sr (limited v)
  putD d (limited v) (if outOfFrac v.toInt then putBit sr srSS true else sr) r

/-! ### Memory, flow and packet instructions -/

/-- CMPM: flags of Aa less the X word (R224, R228). -/
def eCmpm (a : BitVec 2) (o : MemOp) (c : Core) : FpResult :=
  let e := c.regs.ea o
  let r := c.regs.setSr (srCmp c.regs.sr ((c.regs.acc a).toInt - placed (c.readX e.1)))
  ⟨{ c with regs := r.setP o.p e.2 }, 0, 0, c.badRead false e.1, .fall⟩

/-- MAXS (R232): a strictly greater word is loaded and Pk takes the address used; only C changes. -/
def eMaxs (a : BitVec 2) (o : MemOp) (k : BitVec 3) (c : Core) : FpResult :=
  let e := c.regs.ea o
  let v := placed (c.readX e.1)
  let r := c.regs.setP o.p e.2
  let r := if (c.regs.acc a).toInt < v then
      ((r.setA a (BitVec.ofInt 56 v)).setP k e.1).setSr (putBit r.sr srC true)
    else r.setSr (putBit r.sr srC false)
  ⟨{ c with regs := r }, 0, 0, c.badRead false e.1, .fall⟩

/-- FTAP (R234): one tap of a delay-line filter. -/
def eFtap (a : BitVec 2) (i j : BitVec 3) (c : Core) : FpResult :=
  let pi := c.regs.ptr i
  let pj := c.regs.ptr j
  let x := c.readY pi
  let r := addAcc a (fracProd x (c.readY pj)) c.regs
  let w := ({ c with regs := (r.setP i (pi - 1)).setP j (pj + 1) } : Core).writeY (pi + 1) x
  ⟨w.1, w.2, 0, c.badRead true pi ++ c.badRead true pj, .fall⟩

/-- EMIT (R201, R202, R235): T' is T plus the signed offset; FP, and SAT from SS. -/
def eEmit (d e : BitVec 3) (c : Core) : FpResult :=
  let t := (c.running.map (·.tw)).getD 0#64
  let sat := c.regs.flag srSS
  fpResultOf (.hit (t + (c.regs.dreg d).signExtend 64) (if sat then 0b0101#4 else 0b0100#4)
    ((c.regs.dreg e).setWidth 20)) c

/-- PRIM (R201, R235): the offset is bits 22:0. -/
def ePrim (d : BitVec 3) (k : BitVec 6) (c : Core) : FpResult :=
  let t := (c.running.map (·.tw)).getD 0#64
  fpResultOf (.prim (t + ((c.regs.dreg d).setWidth 23).setWidth 64) k.toNat) c

/-- EXIT.cc (R231). -/
def eExit (cc : BitVec 4) (c : Core) : FpResult :=
  match c.regs.loops.getLast? with
  | some l =>
    if condHolds c.regs.sr cc then
      ⟨{ c with regs := { c.regs with loops := c.regs.loops.dropLast } }, 0, 0, [], .leave l.2⟩
    else ⟨c, 0, 0, [], .fall⟩
  | none => ⟨c, 0, 0, [], .fall⟩

/-- A jump, or a branch that jumps when its condition holds (R228, R230). -/
def eJump (taken : Bool) (addr : BitVec 14) (c : Core) : FpResult :=
  ⟨c, 0, 0, [], if taken then .goto addr.toNat else .fall⟩

/-- The effect of every instruction. -/
def fpEffect : Instr → Core → FpResult
  | .mv _ f, c => fmtA opMv f c
  | .fmul _ f, c => fmtA opFmul f c
  | .fmulr _ f, c => fmtA opFmulr f c
  | .fmac _ f, c => fmtA opFmac f c
  | .fmacr _ f, c => fmtA opFmacr f c
  | .fmsb _ f, c => fmtA opFmsb f c
  | .fmsbr _ f, c => fmtA opFmsbr f c
  | .zero _ f, c => fmtA opZero f c
  | .lda _ f, c => fmtA opLda f c
  | .addw _ f, c => fmtA opAddw f c
  | .subw _ f, c => fmtA opSubw f c
  | .cmpw _ f, c => fmtA opCmpw f c
  | .absa _ f, c => fmtA opAbsa f c
  | .nega _ f, c => fmtA opNega f c
  | .rnda _ f, c => fmtA opRnda f c
  | .shl1 _ f, c => fmtA opShl1 f c
  | .shr1 _ f, c => fmtA opShr1 f c
  | .cpya _ f, c => fmtA opCpya f c
  | .suma _ f, c => fmtA opSuma f c
  | .difa _ f, c => fmtA opDifa f c
  | .andw _ f, c => fmtA opAndw f c
  | .orw _ f, c => fmtA opOrw f c
  | .xorw _ f, c => fmtA opXorw f c
  | .dmul _ f, c => fmtA opDmul f c
  | .dmac _ f, c => fmtA opDmac f c
  | .dmsb _ f, c => fmtA opDmsb f c
  | .dmacr _ f, c => fmtA opDmacr f c
  | .smac _ f, c => fmtA opSmac f c
  | .nop _, c => ⟨c, 0, 0, [], .fall⟩
  | .ldi _ d i, c => c.withRegs (rLdi d i c.regs)
  | .addi _ d i, c => c.withRegs (rAddi d i c.regs)
  | .andi _ d i, c => c.withRegs (rAndi d i c.regs)
  | .ori _ d i, c => c.withRegs (rOri d i c.regs)
  | .addd _ d e f, c => c.withRegs (rAddd d e f c.regs)
  | .subd _ d e f, c => c.withRegs (rSubd d e f c.regs)
  | .srai _ d n, c => c.withRegs (rSrai d n c.regs)
  | .slli _ d n, c => c.withRegs (rSlli d n c.regs)
  | .ldp _ n i, c => c.withRegs (rLdp n i c.regs)
  | .ldn _ n i, c => c.withRegs (rLdn n i c.regs)
  | .lea _ d p i, c => c.withRegs (rLea d p i c.regs)
  | .rdr _ d k, c => c.withRegs (rRdr d k c.regs)
  | .wrr _ d k, c => c.withRegs (rWrr d k c.regs)
  | .geta _ d a x, c => c.withRegs (rGeta d a x c.regs)
  | .ldx _ d o, c => fpLoad false d o c
  | .stx _ d o, c => fpStore false d o c
  | .ldy _ d o, c => fpLoad true d o c
  | .sty _ d o, c => fpStore true d o c
  | .maxs _ a o k, c => eMaxs a o k c
  | .cmpm _ a o, c => eCmpm a o c
  | .ftap _ a i j, c => eFtap a i j c
  | .divs _ a d, c => c.withRegs (rDivs a d c.regs)
  | .imul _ a k t, c => c.withRegs (rImul a k t c.regs)
  | .imac _ a k t, c => c.withRegs (rImac a k t c.regs)
  | .sraa _ a n, c => c.withRegs (rSraa a n c.regs)
  | .slla _ a n, c => c.withRegs (rSlla a n c.regs)
  | .loop _ k n, c => fpLoop k n.toNat c
  | .loopr _ d n, c => fpLoop ((c.regs.dreg d).setWidth 16) n.toNat c
  | .jump _ addr, c => eJump true addr c
  | .jcc _ cc addr, c => eJump (condHolds c.regs.sr cc) addr c
  | .exitcc _ cc, c => eExit cc c
  | .emit _ d e, c => eEmit d e c
  | .prim _ d k, c => ePrim d k c
  | .done _, c => ⟨c, 0, 0, [], .done⟩
  | .satu _ d a, c => c.withRegs (rSatu d a c.regs)
  | _, c => ⟨c, 0, 0, [], .fall⟩

end Sys2Proof.Machine
end

