-- ==== Sys2Proof/Machine/LineCode.lean ====
section
/-! DEFINITION. The line code (R75, R76): scrambler, stuffing, and their inverses; and the bits of a frame (R77, R78). -/

namespace Sys2Proof.Machine

/-- Scramble or descramble a bit: XOR with the scrambled bits 39 and 58 before it (R75). -/
def scramble (s : BitVec 58) (d : Bool) : Bool := (d ^^ s.getLsbD 38) ^^ s.getLsbD 57

/-- Shift a scrambled bit in. -/
def shiftIn (s : BitVec 58) (x : Bool) : BitVec 58 := (s <<< 1) ||| BitVec.ofNat 58 (bnat x)

/-- One data bit through the transmitter (R75): the wire bits, a stuff bit after a run of 11. -/
def LineTx.step (t : LineTx) (d : Bool) : LineTx × List Bool :=
  let x := scramble t.s d
  let run := if x = t.last then t.run + 1 else 1
  if run = 11 then (⟨shiftIn t.s x, !x, 1⟩, [x, !x])
  else (⟨shiftIn t.s x, x, run⟩, [x])

/-- A sequence of data bits through the transmitter. -/
def LineTx.send : LineTx → List Bool → LineTx × List Bool
  | t, [] => (t, [])
  | t, d :: ds =>
    let r := t.step d
    let q := LineTx.send r.1 ds
    (q.1, r.2 ++ q.2)

/-- One wire bit into the receiver (R75): the data bit that it delivers, and whether a stuff error begins. -/
def LineRx.step (r : LineRx) (w : Bool) : LineRx × Option Bool × Bool :=
  if 12 ≤ r.run then
    if w = r.last then (⟨r.s, r.last, r.run + 1⟩, none, false)
    else (⟨shiftIn r.s w, w, 1⟩, some (scramble r.s w), false)
  else if r.run = 11 then
    if w = r.last then (⟨r.s, r.last, 12⟩, none, true)
    else (⟨r.s, w, 1⟩, none, false)
  else
    (⟨shiftIn r.s w, w, if w = r.last then r.run + 1 else 1⟩, some (scramble r.s w), false)

/-- A sequence of wire bits into the receiver: the bits delivered and the number of stuff errors. -/
def LineRx.receive : LineRx → List Bool → LineRx × List Bool × Nat
  | r, [] => (r, [], 0)
  | r, w :: ws =>
    let a := r.step w
    let b := LineRx.receive a.1 ws
    (b.1, a.2.1.toList ++ b.2.1, b.2.2 + bnat a.2.2)

/-- The frame type: the flag in bit 5 and the kind (R79). -/
def frameType (flag : Bool) (kind : Nat) : Nat := bnat flag * 32 + kind

/-- The bits 2095:32 of a frame in transmission order, which the CRC-32 covers (R77, R78). -/
def frameBody (seq : BitVec 10) (ty : Nat) (words : List Word) : List Bool :=
  bitsMsb 10 seq.toNat ++ bitsMsb 6 ty ++ words.flatMap (fun w => bitsMsb 64 w.toNat)

/-- The CRC-32 of a frame (R78). -/
def frameCrc (seq : BitVec 10) (ty : Nat) (words : List Word) : BitVec 32 := crc32Frame (frameBody seq ty words)

/-- The marker of every frame (R77). -/
def frameMarker : BitVec 16 := 0xE4B1#16

/-- The 2,112 bits of a frame in transmission order (R76, R77). -/
def frameBits (seq : BitVec 10) (ty : Nat) (words : List Word) : List Bool :=
  bitsMsb 16 frameMarker.toNat ++ frameBody seq ty words ++ bitsMsb 32 (frameCrc seq ty words).toNat

/-- The number that bits spell, most significant first (R76). -/
def bitsNat (l : List Bool) : Nat := l.foldl (fun a b => 2 * a + bnat b) 0

/-- The bits `off` to `off + n - 1` of a frame in transmission order. -/
def bitsAt (l : List Bool) (off n : Nat) : Nat := bitsNat ((l.drop off).take n)

/-- The frame that the receiver delivers (R77): the last 2,112 of the destuffed bits `d`; fewer bits leave no place for its
marker. `bits` is their number since the frame before (R89). -/
def frameOf (d : List Bool) (errors : Nat) : Frame :=
  let l := List.replicate (2112 - d.length) false ++ d.drop (d.length - 2112)
  ⟨BitVec.ofNat 16 (bitsAt l 0 16), BitVec.ofNat 10 (bitsAt l 16 10), decide (bitsAt l 26 1 = 1), BitVec.ofNat 5 (bitsAt l 27 5),
    (List.range 32).map (fun i => BitVec.ofNat 64 (bitsAt l (32 + 64 * i) 64)), BitVec.ofNat 32 (bitsAt l 2080 32),
    decide (errors ≠ 0), d.length⟩

/-- A received frame has the marker in its place. -/
def frameMarked (f : Frame) : Bool := decide (f.marker = frameMarker)

/-- A received frame has a good marker and CRC and no stuff error (R88). -/
def frameSound (f : Frame) : Bool :=
  frameMarked f && !f.stuffError && decide (f.crc = frameCrc f.seq (frameType f.flag f.kind.toNat) f.words)

/-- A received frame is good and of this kind. -/
def frameGood (f : Frame) (kind : Nat) : Bool := frameSound f && decide (f.kind.toNat = kind)

/-! ### Loop patterns (R96) -/

/-- One received bit against the reference sequence of x^31 + x^28 + 1, which the first 31 bits start: the checker, and
whether the bit was compared and was wrong. -/
def Prbs.step (p : Prbs) (w : Bool) : Prbs × Bool × Bool :=
  if p.seeded < 31 then (⟨(p.reg <<< 1) ||| BitVec.ofNat 31 (bnat w), p.seeded + 1⟩, false, false)
  else
    let d := p.reg.getLsbD 30 ^^ p.reg.getLsbD 27
    (⟨(p.reg <<< 1) ||| BitVec.ofNat 31 (bnat d), 31⟩, true, w != d)

/-- Received bits against the reference sequence: the checker, the bits compared and the bits in error. -/
def Prbs.check : Prbs → List Bool → Prbs × Nat × Nat
  | p, [] => (p, 0, 0)
  | p, w :: ws =>
    let a := p.step w
    let b := Prbs.check a.1 ws
    (b.1, bnat a.2.1 + b.2.1, bnat a.2.2 + b.2.2)

/-- The bits in which two numbers of `n` bits differ. -/
def bitDiff (n a b : Nat) : Nat := (bitsMsb n (a ^^^ b)).countP id

/-- The bits in which a received frame differs from the FILL frame of a sequence. -/
def fillDiff (f : Frame) (seq : BitVec 10) : Nat :=
  bitDiff 16 f.marker.toNat frameMarker.toNat + bitDiff 10 f.seq.toNat seq.toNat +
    bitDiff 6 (frameType f.flag f.kind.toNat) (frameType false 0) + (f.words.map (fun w => bitDiff 64 w.toNat 0)).sum +
    bitDiff 32 f.crc.toNat (frameCrc seq (frameType false 0) (List.replicate 32 0#64)).toNat
end Sys2Proof.Machine
end

