-- ==== Sys2Proof/Machine/StayCode.lean ====
section
/-! DEFINITION. The messages of the stay link as bytes (R9, R318): the payload of each of the twelve types and back, the
8-byte header, and the byte stream that the DATA frames carry (R317). The payloads that the manual names without a layout
have the one of log entry 23. -/

namespace Sys2Proof.Machine

/-! ### Snapshots (R335) -/

/-- The bitmap of a snapshot (R335). -/
def Snapshot.bitmap (p : Snapshot) : List Byte :=
  (List.range 512).map (fun j => BitVec.ofNat 8 ((List.range 8).map (fun i =>
    bnat (p.done.contains (p.through + BitVec.ofNat 64 (1 + 8 * j + i)).toNat) * 2 ^ i)).sum)

/-- The bytes of a snapshot before its CRC (R335). -/
def snapshotBytes (p : Snapshot) : List Byte :=
  leBytes 8 p.number.toNat ++ leBytes 4 p.term.toNat ++ leBytes 4 0 ++ leBytes 6 p.slice ++ leBytes 2 0 ++
    leBytes 8 p.epoch.toNat ++ leBytes 8 p.through.toNat ++ leBytes 8 p.recordSeq.toNat ++ leBytes 6 p.oldest ++
    leBytes 2 0 ++ Snapshot.bitmap p ++ leBytes 2 p.pins.length ++ leBytes 6 0 ++
    p.pins.flatMap (fun e => leBytes 8 e.1.toNat ++ leBytes 8 e.2.toNat)

/-! ### Reading -/

def leWord (b : List Byte) (off : Nat) : BitVec 64 := BitVec.ofNat 64 (leAt b off 8)

def leHalf (b : List Byte) (off : Nat) : BitVec 32 := BitVec.ofNat 32 (leAt b off 4)

/-- `k` entries of `n` bytes from offset `off`. -/
def entries {α : Type} (f : List Byte → α) (b : List Byte) (off n k : Nat) : List α :=
  (List.range k).map (fun i => f ((b.drop (off + n * i)).take n))

/-- The bytes of a number, without leading zeros. -/
def natBytes : Nat → Nat → List Byte
  | 0, _ => []
  | n + 1, v => if v = 0 then [] else BitVec.ofNat 8 v :: natBytes n (v / 256)

/-- A value of an object or table entry: its key in 4 bytes (index and subindex, or the place in a table), the length of the
value, the value (log entry 23). -/
def fieldBytes (e : Nat × Nat) : List Byte :=
  let v := natBytes 255 e.2
  leBytes 4 e.1 ++ leBytes 1 v.length ++ v

/-- The values that bytes hold; `n` bounds their number. -/
def fieldsOf : Nat → List Byte → List (Nat × Nat)
  | 0, _ => []
  | n + 1, b =>
    if b.length < 5 then []
    else (leAt b 0 4, leAt b 5 (leAt b 4 1)) :: fieldsOf n (b.drop (5 + leAt b 4 1))

/-- Four images, each with its length in 4 bytes. -/
def imagesOf : Nat → List Byte → List (List Byte)
  | 0, _ => []
  | n + 1, b => (b.drop 4).take (leAt b 0 4) :: imagesOf n (b.drop (4 + leAt b 0 4))

/-! ### Entries -/

/-- An entry of a forwarded trigger (R328). -/
def FwdTrigger.bytes (t : FwdTrigger) : List Byte :=
  leBytes 1 (if t.host then 5 else 4) ++ leBytes 1 t.cls ++ leBytes 2 t.srcNum ++ leBytes 4 t.tag.toNat ++
    leBytes 8 t.wstart.toNat ++ leBytes 8 t.wend.toNat ++ leBytes 8 (if t.host then 0 else t.alertSeq.toNat)

def fwdOf (b : List Byte) : FwdTrigger :=
  ⟨decide (leAt b 0 1 = 5), leAt b 1 1, leAt b 2 2, leHalf b 4, leWord b 8, leWord b 16, leWord b 24⟩

/-- A forwarded placement, behind the triggers of SLICE (R341, log entry 23). -/
def Placement.bytes (p : Placement) : List Byte :=
  leBytes 1 p.cls ++ leBytes 1 p.outcome ++ leBytes 2 p.rank ++ leBytes 4 p.recordNumber.toNat ++ leBytes 8 p.wstart.toNat ++
    leBytes 8 p.wend.toNat

def placementOf (b : List Byte) : Placement :=
  ⟨leAt b 0 1, leAt b 1 1, leAt b 2 2, leHalf b 4, leWord b 8, leWord b 16⟩

/-- The placement state of a class (R341, log entry 23). -/
def JoinClass.bytes (c : JoinClass) : List Byte :=
  let l := c.latest.getD ⟨0#64, 0#64, 0#32, false⟩
  leBytes 1 c.cls ++ leBytes 1 (bnat c.latest.isSome + 2 * bnat l.isOpen) ++ leBytes 2 0 ++ leBytes 4 c.nextNumber.toNat ++
    leBytes 4 c.prescale ++ leBytes 4 l.number.toNat ++ leBytes 8 l.ls.toNat ++ leBytes 8 l.le.toNat

def joinClassOf (b : List Byte) : JoinClass :=
  ⟨leAt b 0 1, leHalf b 4, leAt b 8 4,
    if bit (leAt b 1 1) 0 then some ⟨leWord b 16, leWord b 24, leHalf b 12, bit (leAt b 1 1) 1⟩ else none⟩

/-- A hollow record or context (R341, log entry 23). -/
def HollowItem.bytes (h : HollowItem) : List Byte :=
  leBytes 1 h.cls ++ leBytes 1 (bnat h.seq.isSome + 2 * bnat h.firstQueue.isSome) ++ leBytes 2 h.rank ++
    leBytes 4 h.number.toNat ++ leBytes 4 h.cont ++ leBytes 2 h.queue ++ leBytes 2 (h.firstQueue.getD 0) ++
    leBytes 8 (h.seq.getD 0#64).toNat ++ leBytes 8 h.binding ++ leBytes 8 h.wstart.toNat ++ leBytes 8 h.wend.toNat

def hollowOf (b : List Byte) : HollowItem :=
  ⟨if bit (leAt b 1 1) 0 then some (leWord b 16) else none, leAt b 0 1, leHalf b 4, leAt b 8 4, leAt b 2 2, leAt b 24 8,
    leWord b 32, leWord b 40, leAt b 12 2, if bit (leAt b 1 1) 1 then some (leAt b 14 2) else none⟩

/-- The list of a multiplicity unit: its number, whether it has fired, the number of its hits, its last trigger, the hits
(R341, log entry 23). -/
def multListBytes (e : Nat × Option Tw × List (Tw × Nat)) : List Byte :=
  leBytes 1 e.1 ++ leBytes 1 (bnat e.2.1.isSome) ++ leBytes 2 e.2.2.length ++ leBytes 4 0 ++
    leBytes 8 ((e.2.1.map BitVec.toNat).getD 0) ++ e.2.2.flatMap (fun h => leBytes 8 h.1.toNat ++ leBytes 1 h.2)

def multListsOf : Nat → List Byte → List (Nat × Option Tw × List (Tw × Nat))
  | 0, _ => []
  | n + 1, b =>
    if b.length < 16 then []
    else
      let k := leAt b 2 2
      (leAt b 0 1, if bit (leAt b 1 1) 0 then some (leWord b 8) else none,
        entries (fun h => (leWord h 0, leAt h 8 1)) b 16 9 k) :: multListsOf n (b.drop (16 + 9 * k))

/-- The state at the start of the join slice (R341 step 3, log entry 23): the lengths of its lists, then the lists. -/
def JoinState.bytes (j : JoinState) : List Byte :=
  let lists := j.lists.flatMap multListBytes
  leBytes 8 j.recordSeq.toNat ++ leBytes 2 j.classes.length ++ leBytes 2 j.deal.length ++ leBytes 2 j.hollow.length ++
    leBytes 2 j.counts.length ++ j.classes.flatMap JoinClass.bytes ++
    j.deal.flatMap (fun e => leBytes 4 e.1 ++ leBytes 8 e.2) ++ j.hollow.flatMap HollowItem.bytes ++
    j.counts.flatMap (fun e => leBytes 4 e.1 ++ leBytes 8 e.2) ++ lists

def joinStateOf (b : List Byte) : JoinState :=
  let pair := fun e => (leAt e 0 4, leAt e 4 8)
  let o1 := 16 + 32 * leAt b 8 2
  let o2 := o1 + 12 * leAt b 10 2
  let o3 := o2 + 48 * leAt b 12 2
  let o4 := o3 + 12 * leAt b 14 2
  ⟨leWord b 0, entries joinClassOf b 16 32 (leAt b 8 2), entries pair b o1 12 (leAt b 10 2),
    multListsOf 16 (b.drop o4), entries hollowOf b o2 48 (leAt b 12 2), entries pair b o3 12 (leAt b 14 2)⟩

/-! ### Payloads (R318) -/

/-- The bytes of a JOIN (R341, log entry 23): its kind, then the request, the configuration or the state. -/
def JoinMsg.bytes : JoinMsg → List Byte
  | .request => leBytes 8 1
  | .config j epoch fields images =>
    let f := fields.flatMap fieldBytes
    leBytes 2 2 ++ leBytes 6 j ++ leBytes 8 epoch.toNat ++ leBytes 4 f.length ++ f ++
      images.flatMap (fun b => leBytes 4 b.length ++ b)
  | .state st => leBytes 8 3 ++ st.bytes

def joinMsgOf (b : List Byte) : Option JoinMsg :=
  match leAt b 0 1 with
  | 1 => some .request
  | 2 =>
    let f := (b.drop 20).take (leAt b 16 4)
    some (.config (leAt b 2 6) (leWord b 8) (fieldsOf f.length f) (imagesOf 4 (b.drop (20 + leAt b 16 4))))
  | 3 => some (.state (joinStateOf (b.drop 8)))
  | _ => none

/-- The type of a message (R318). -/
def StayMsg.type : StayMsg → Nat
  | .slice .. => 1 | .digest .. => 2 | .delay .. => 3 | .start .. => 4 | .commit .. => 5 | .arm .. => 6 | .image .. => 7
  | .snapshot .. => 8 | .takeover .. => 9 | .hello .. => 10 | .join .. => 11 | .ack .. => 12

/-- The number of an outcome of an Arm (R64, R66, log entry 23). -/
def ArmOutcome.num : ArmOutcome → Nat
  | .accepted => 0 | .late => 1 | .tooFar => 2

/-- The payload of a message (R318, R328, R335; log entry 23 for ARM, IMAGE, HELLO and the entries of COMMIT). -/
def StayMsg.payload : StayMsg → List Byte
  | .slice n level trigs pl =>
    leBytes 6 n ++ leBytes 1 level ++ leBytes 1 trigs.length ++ trigs.flatMap FwdTrigger.bytes ++ pl.flatMap Placement.bytes
  | .digest n d q => leBytes 6 n ++ leBytes 2 0 ++ leBytes 8 d.toNat ++ leBytes 8 q.toNat
  | .delay p f da => leBytes 8 p ++ leBytes 8 f ++ leBytes 4 (da % 2 ^ 32).toNat
  | .start p n => leBytes 8 p ++ leBytes 6 n
  | .commit n l => leBytes 6 n ++ leBytes 2 0 ++ l.flatMap fieldBytes
  | .arm g tr f o =>
    leBytes 1 g ++ leBytes 1 o.num ++ leBytes 1 f.mode.toNat ++ leBytes 1 f.routes.toNat ++ leBytes 1 f.cls.toNat ++
      leBytes 1 (bnat f.activeLow) ++ leBytes 2 0 ++ leBytes 8 tr.toNat ++ leBytes 8 f.start.toNat ++
      leBytes 8 f.period.toNat ++ leBytes 4 f.width.toNat ++ leBytes 4 f.count.toNat
  | .image slot b => leBytes 4 slot ++ b
  | .snapshot p crc => snapshotBytes p ++ leBytes 4 crc.toNat
  | .takeover t n => leBytes 4 t.toNat ++ leBytes 4 0 ++ leBytes 6 n
  | .hello h => leBytes 1 h.role.toNat ++ leBytes 1 h.ready.toNat ++ leBytes 1 (bnat h.paired) ++ leBytes 1 0 ++
      leBytes 4 h.term.toNat ++ leBytes 8 h.serial.toNat
  | .join m => m.bytes
  | .ack num => leBytes 4 num.toNat

/-- The shortest payload of each type. -/
def payloadMin : Nat → Nat
  | 1 => 8 | 2 => 24 | 3 => 20 | 4 => 14 | 5 => 8 | 6 => 40 | 7 => 4 | 8 => 580 | 9 => 14 | 10 => 16 | 11 => 8 | 12 => 4
  | _ => 0

/-- The snapshot that a payload of SNAPSHOT holds. -/
def snapshotOf (b : List Byte) : Snapshot :=
  let through := leWord b 32
  ⟨leWord b 0, leHalf b 8, leAt b 16 6, leWord b 24, through, leWord b 40, leAt b 48 6,
    ((List.range 4096).filter (fun i => bit (leAt b (56 + i / 8) 1) (i % 8))).map (fun i =>
      (through + BitVec.ofNat 64 (1 + i)).toNat),
    entries (fun e => (leWord e 0, leWord e 8)) b 576 16 (min 64 (leAt b 568 2))⟩

/-- The last 4 bytes of a payload of SNAPSHOT are the CRC-32C of all before them (R335). -/
def snapshotGood (b : List Byte) : Bool :=
  decide (leAt b (b.length - 4) 4 = (crc32c (b.take (b.length - 4))).toNat)

/-- The message that a payload of a type spells; none where it is too short or is of no type of R318. -/
def stayMsgOf (ty : Nat) (b : List Byte) : Option StayMsg :=
  if b.length < payloadMin ty then none
  else
    match ty with
    | 1 =>
      let k := leAt b 7 1
      some (.slice (leAt b 0 6) (leAt b 6 1) (entries fwdOf b 8 32 k)
        (entries placementOf b (8 + 32 * k) 24 ((b.length - 8 - 32 * k) / 24)))
    | 2 => some (.digest (leAt b 0 6) (leWord b 8) (leWord b 16))
    | 3 => some (.delay (leAt b 0 1) (leAt b 8 8) (signed 32 (leAt b 16 4)))
    | 4 => some (.start (leAt b 0 1) (leAt b 8 6))
    | 5 => some (.commit (leAt b 0 6) (fieldsOf b.length (b.drop 8)))
    | 6 =>
      let o : ArmOutcome := match leAt b 1 1 with | 0 => .accepted | 1 => .late | _ => .tooFar
      some (.arm (leAt b 0 1) (leWord b 8) ⟨BitVec.ofNat 8 (leAt b 2 1), leWord b 16, leWord b 24, leHalf b 32, leHalf b 36,
        BitVec.ofNat 8 (leAt b 3 1), BitVec.ofNat 8 (leAt b 4 1), bit (leAt b 5 1) 0⟩ o)
    | 7 => some (.image (leAt b 0 1) (b.drop 4))
    | 8 => some (.snapshot (snapshotOf b) (leHalf b (b.length - 4)))
    | 9 => some (.takeover (leHalf b 0) (leAt b 8 6))
    | 10 => some (.hello ⟨BitVec.ofNat 8 (leAt b 0 1), leHalf b 4, bit (leAt b 2 1) 0, BitVec.ofNat 8 (leAt b 1 1), leWord b 8⟩)
    | 11 => (joinMsgOf b).map .join
    | 12 => some (.ack (leHalf b 0))
    | _ => none

/-! ### The byte stream (R317, R318) -/

/-- The most payload that one header can give. -/
def payloadMax : Nat := 65535

/-- The payloads of the messages that carry a payload: one, or more where it does not fit in one. A payload of exactly 65,535
bytes goes on in the next message of its type (log entry 23). -/
def payloadParts : Nat → List Byte → List (List Byte)
  | 0, b => [b]
  | n + 1, b => if b.length < payloadMax then [b] else b.take payloadMax :: payloadParts n (b.drop payloadMax)

/-- The 8-byte header of a message (R318). -/
def stayHeader (ty len : Nat) (num : BitVec 32) : List Byte :=
  leBytes 1 ty ++ leBytes 1 0 ++ leBytes 2 len ++ leBytes 4 num.toNat

/-- The messages of the parts of a payload, numbered from `num` on. -/
def stayBytes (ty : Nat) : BitVec 32 → List (List Byte) → List Byte
  | _, [] => []
  | num, b :: bs => stayHeader ty b.length num ++ b ++ stayBytes ty (num + 1) bs

/-- Cut bytes into parts of at most 248, the words 1 to 31 of a frame; `n` bounds their number (R317). -/
def frameParts : Nat → List Byte → List (List Byte)
  | 0, _ => []
  | n + 1, b => if b.isEmpty then [] else b.take 248 :: frameParts n (b.drop 248)

/-- The words 1 to 31 of a frame that carries a part of the stream (R9, R317). -/
def streamWords (b : List Byte) : List Word := (List.range 31).map (fun i => leWord b (8 * i))

/-- The bytes of the words 1 to 31 of a frame. -/
def streamBytes (w : List Word) : List Byte := (List.range 31).flatMap (fun i => wordBytes (w.getD (i + 1) 0#64))

/-- A message taken from the stream: its type, its number, its payload. -/
structure StayPart where
  type : Nat
  num : BitVec 32
  payload : List Byte
  deriving DecidableEq, Repr

/-- The first whole message of the stream and what follows it; zero bytes between messages are fill, and messages of types
that the manual does not name are passed over (log entry 23). `n` bounds the steps. -/
def firstPart : Nat → List Byte → Option (StayPart × List Byte)
  | 0, _ => none
  | n + 1, b =>
    let len := leAt b 2 2
    if b.isEmpty then none
    else if leAt b 0 1 = 0 then firstPart n (b.drop 1)
    else if b.length < 8 + len then none
    else if 12 < leAt b 0 1 then firstPart n (b.drop (8 + len))
    else some (⟨leAt b 0 1, leHalf b 4, (b.drop 8).take len⟩, b.drop (8 + len))

/-- The first whole message with its continuations; the number is that of the last part. -/
def firstMsg : Nat → List Byte → Option (StayPart × List Byte)
  | 0, _ => none
  | n + 1, b =>
    match firstPart b.length b with
    | none => none
    | some (p, rest) =>
      if p.payload.length < payloadMax then some (p, rest)
      else
        match firstMsg n rest with
        | some (q, rest2) => if q.type = p.type then some (⟨p.type, q.num, p.payload ++ q.payload⟩, rest2) else some (p, rest)
        | none => none

/-- What is left of the stream when its whole messages are taken off. -/
def incomplete : Nat → List Byte → List Byte
  | 0, b => b
  | n + 1, b =>
    match firstPart b.length b with
    | some (_, rest) => incomplete n rest
    | none => b.dropWhile (fun x => decide (x = 0#8))

end Sys2Proof.Machine
end

