-- ==== Sys2Proof/Machine/Ops.lean ====
section
/-! DEFINITION. The named operations over the state that every family shares: time (R44, R45), slices, configuration in
force, counters, the device sequence, the journal (R290, R291), reports (R280), losses (R34, R35, R152, R153), the stay
link's messages (R318) and the device states and roles (R28, R319). -/

namespace Sys2Proof.Machine

/-! ### Time -/

/-- The time word of a raw count (R45): c + b + (c - cref) * f / 2^40, rounded to the nearest fu, ties to even. -/
def Timebase.tw (t : Timebase) (c : BitVec 64) : Tw :=
  BitVec.ofInt 64 (roundEven (c.toNat * 2 ^ 40 + t.b + (c - t.cref).toInt * t.f) (2 ^ 40))

/-- The state `dt` ticks later: C has grown by 8,192 a tick (R44). -/
def State.elapse (s : State) (dt : Nat) : State :=
  { s with tb := { s.tb with c := s.tb.c + BitVec.ofNat 64 (dt * tickFu), up := s.tb.up + dt } }

/-- The time word now. -/
def State.now (s : State) : Tw := s.tb.tw s.tb.c

/-- The time word `sub` fu after the present tick (R45: sub-tick times are added to C). -/
def State.nowAt (s : State) (sub : Nat) : Tw := s.tb.tw (s.tb.c + BitVec.ofNat 64 sub)

/-- Slices are numbered modulo 2^44, as the time word wraps (R11, R13). -/
def sliceMod : Nat := 17592186044416

/-- The slice of a time (R11). -/
def sliceOf (t : Tw) : Nat := t.toNat / sliceFu

/-- The slice-relative time (R11). -/
def sliceRel (t : Tw) : Nat := t.toNat % sliceFu

/-- The first fu of a slice. -/
def sliceStart (n : Nat) : Tw := BitVec.ofNat 64 (n * sliceFu)

/-- The slice `k` after `n`. -/
def sliceAdd (n k : Nat) : Nat := (n + k) % sliceMod

/-- The signed number of slices from `b` to `a` (R13). -/
def sliceDiff (a b : Nat) : Int := (BitVec.ofInt 44 ((a : Int) - b)).toInt

/-- Slice `a` lies before slice `b`. -/
def sliceLt (a b : Nat) : Bool := decide (sliceDiff a b < 0)

/-- Slice `a` lies at or before slice `b`. -/
def sliceLe (a b : Nat) : Bool := decide (sliceDiff a b ≤ 0)

/-- The slice in which the present instant lies. -/
def State.slice (s : State) : Nat := sliceOf s.now

/-- `a` is earlier than `b` (R13). -/
def before (a b : Tw) : Bool := decide (twDiff a b < 0)

/-- `a` is not later than `b` (R13). -/
def notAfter (a b : Tw) : Bool := decide (twDiff a b ≤ 0)

/-- The first slice boundary at or after a time, as a slice number (R40). -/
def roundUpSlice (t : Tw) : Nat :=
  if sliceRel t = 0 then sliceOf t else sliceAdd (sliceOf t) 1

/-- Ticks in `us` microseconds of raw time (125 ticks each, R10). -/
def usFu (us : Nat) : Nat := us * 1024000

/-- The raw fu passed since a raw count. -/
def State.since (s : State) (c : BitVec 64) : Nat := (s.tb.c - c).toNat

/-! ### Configuration in force -/

/-- The table of the applied epoch that slice `n` lies in (R40). -/
def tableOf (g : Cfg) (n : Nat) : Tab Nat :=
  match g.past with
  | [] => g.active
  | e :: rest =>
    if sliceLe e.first n then g.active
    else match rest.find? (fun r => sliceLe r.first n) with
      | some r => r.table
      | none => (rest.getLast?.map (·.table)).getD g.active

/-- The value of an object in the active set (R283). -/
def State.conf (s : State) (o : Obj) : Nat := Tab.get o.dflt s.cfg.active o.key

/-- The table in force at slice `n`: a pending set from its commit slice on, the active set from the present epoch's first
slice on, before it the epoch that held then (R40). -/
def State.confTable (s : State) (n : Nat) : Tab Nat :=
  match s.cfg.pending with
  | some (c, t) => if sliceLe c n then t else tableOf s.cfg n
  | none => tableOf s.cfg n

/-- The value of an object in the epoch in force at slice `n` (R40). -/
def State.confAt (s : State) (n : Nat) (o : Obj) : Nat := Tab.get o.dflt (s.confTable n) o.key

/-- The number of the applied epoch that slice `n` lies in (R40). -/
def numberOf (g : Cfg) (n : Nat) : BitVec 64 :=
  match g.past.find? (fun r => sliceLe r.first n) with
  | some r => r.number
  | none => (g.past.getLast?.map (·.number)).getD g.number

/-- The number of the epoch in force at slice `n` (R40). -/
def State.epochAt (s : State) (n : Nat) : BitVec 64 :=
  match s.cfg.pending with
  | some (c, _) => if sliceLe c n then s.cfg.number + 1 else numberOf s.cfg n
  | none => numberOf s.cfg n

/-- The value of an object that acts at once (R298, R307). -/
def State.imm (s : State) (o : Obj) : Nat := Tab.get o.dflt s.cfg.imm o.key

/-- Set an object that acts at once. -/
def State.setImm (s : State) (o : Obj) (v : Nat) : State :=
  { s with cfg := { s.cfg with imm := Tab.set o.dflt s.cfg.imm o.key v } }

/-- The signed value of an I32 or I64 object held raw. -/
def State.confInt (s : State) (w : Nat) (o : Obj) : Int := signed w (s.conf o)

/-! ### Counters, status objects and what the device sends -/

/-- A counter or plain status object by its key. -/
def State.count (s : State) (k : Nat) : Nat := Tab.get 0 s.stat k

/-- Set a status object. -/
def State.setStat (s : State) (k v : Nat) : State := { s with stat := Tab.set 0 s.stat k v }

/-- Add to a 32-bit counter, which wraps. -/
def State.bump (s : State) (k : Nat) (n : Nat := 1) : State := s.setStat k ((s.count k + n) % 2 ^ 32)

/-- Add to a 64-bit counter, which wraps. -/
def State.bump64 (s : State) (k : Nat) (n : Nat := 1) : State := s.setStat k ((s.count k + n) % 2 ^ 64)

/-- Keep the highest value in a status object. -/
def State.raiseStat (s : State) (k v : Nat) : State := if s.count k < v then s.setStat k v else s

/-- Record something that the device sends or drives. -/
def State.emit (s : State) (o : Out) : State := { s with out := o :: s.out }

/-- The next free value: nothing is known of it (log entry 6). -/
def State.freeVal (s : State) : BitVec 64 := Config.freeBits s.free

/-- Move on to a fresh free value. -/
def State.nextFree (s : State) : State := { s with free := s.free + 1 }

/-! ### Device sequence, reports and the journal -/

/-- Count one item that the controller emits (R279). -/
def State.nextSeq (s : State) : State := { s with ctl := { s.ctl with seq := s.ctl.seq + 1 } }

/-- Change the session of a number. -/
def State.setSession (s : State) (n : Nat) (x : Session) : State :=
  { s with ctl := { s.ctl with sessions := Tab.put s.ctl.sessions n x } }

/-- The session of a number, if it is open. -/
def State.session (s : State) (n : Nat) : Option Session := Tab.look s.ctl.sessions n

/-- A report to one session (R280): it takes a device sequence and a report number, also when the queue of 64 is full. -/
def State.reportTo (s : State) (n code index : Nat) (data : List Byte) : State :=
  match s.session n with
  | none => s
  | some x =>
    let s1 := s.nextSeq
    let r : Report := ⟨x.reportNo, s1.ctl.seq, code, index, data⟩
    if x.reports.length < 64 then
      s1.setSession n { x with reportNo := x.reportNo + 1, reports := x.reports ++ [r] }
    else (s1.setSession n { x with reportNo := x.reportNo + 1 }).bump (kReportsLost n)

/-- A report to every session whose mask has the bit, in ascending order of session (R280). -/
def State.reportAll (s : State) (maskBit code index : Nat) (data : List Byte) : State :=
  (List.range 8).foldl (fun s n =>
    match s.session n with
    | some x => if bit x.mask maskBit then s.reportTo n code index data else s
    | none => s) s

/-- The bytes of a journal entry (R291). -/
def JournalEntry.bytes (e : JournalEntry) : List Byte :=
  leBytes 8 e.tw.toNat ++ leBytes 4 e.seq.toNat ++ leBytes 2 e.code ++ leBytes 2 e.source ++ leBytes 16 e.data.toNat

/-- The source 0xFFFF of a journal entry: the device (R291). -/
def srcDevice : Nat := 0xFFFF

/-- Write a journal entry (R290, R291) and report it (R280 code 4). -/
def State.journal (s : State) (code source : Nat) (data : BitVec 128) : State :=
  let s1 := s.nextSeq
  let e : JournalEntry := ⟨s.now, s1.ctl.seq, code, source, data⟩
  let s2 := { s1 with ctl := { s1.ctl with
    journal := Tab.put s1.ctl.journal s1.ctl.jNext e
    jNext := (s1.ctl.jNext + 1) % 1024
    jCount := s1.ctl.jCount + 1 } }
  s2.reportAll 2 4 0x1021 e.bytes

/-- Journal data from fields, each a position in bytes from byte 16 and a value. -/
def jdata (fields : List (Nat × Nat)) : BitVec 128 :=
  fields.foldl (fun d f => d ||| (BitVec.ofNat 128 f.2 <<< (8 * f.1))) 0#128

/-! ### Losses -/

/-- The number of a cause, 1 to 11 (R19). -/
def LossCause.num : LossCause → Nat
  | .linkCrc => 1 | .stuffErr => 2 | .horizon => 3 | .straggler => 4 | .fpQueue => 5 | .reef1 => 6 | .reef3 => 7
  | .hbmCrc => 8 | .queueFull => 9 | .tooOld => 10 | .tinBusy => 11

/-- The source 0xFFFE of a loss: the whole device (R153). -/
def srcWhole : Nat := 0xFFFE

/-- The key of an aggregate: ascending keys are ascending slices, then causes, then sources (R153). -/
def lossKey (attr cause source : Nat) : Nat := (attr * 16 + cause) * 65536 + source

/-- A loss-log entry (R153). -/
def lossEntry (attr cause source n : Nat) : BitVec 128 :=
  BitVec.ofNat 128 (attr % 2 ^ 48 + cause * 2 ^ 48 + source * 2 ^ 64 + n % 2 ^ 32 * 2 ^ 96)

/-- Append one entry to the loss log, a ring of `n` entries (R139, R153). -/
def History.lossWrite (h : History) (n : Nat) (e : BitVec 128) : History :=
  { h with lossLog := Tab.set 0#128 h.lossLog h.lossHead e, lossHead := (h.lossHead + 1) % n }

/-- Write out the aggregates of an arrival slice (R153). -/
def State.flushLosses (s : State) : State :=
  let limit := s.conf cLossLogLimit
  let ring := if s.count kHbmDegraded = 1 then 4194304 else 8388608
  let first := s.hist.losses.take limit
  let rest := List.drop limit s.hist.losses
  let h := first.foldl (fun h e =>
    h.lossWrite ring (lossEntry (e.1 / 1048576) (e.1 / 65536 % 16) (e.1 % 65536) e.2)) s.hist
  let h := { h with losses := [] }
  if rest.isEmpty then { s with hist := h }
  else
    let total := (rest.map Prod.snd).sum
    ({ s with hist := h.lossWrite ring (lossEntry s.hist.lossSlice 0 0xFFFF total) }).bump kLossLogOverflow

/-- Aggregates of an earlier arrival slice are written before those of a later one are gathered (R153). -/
def State.lossTurn (s : State) (arrival : Nat) : State :=
  if s.hist.lossSlice = arrival then s
  else
    let s := if s.hist.losses.isEmpty then s else s.flushLosses
    { s with hist := { s.hist with lossSlice := arrival } }

/-- Count `n` units of a loss against an attributed slice and a source (R34, R35, R152, R153). -/
def State.lose (s : State) (cause : LossCause) (n attr source : Nat) : State :=
  if n = 0 then s
  else
    let s := s.lossTurn s.slice
    let k := lossKey attr cause.num source
    let s := { s with hist := { s.hist with losses := Tab.set 0 s.hist.losses k (Tab.get 0 s.hist.losses k + n) } }
    s.bump64 (kLossCounters (cause.num - 1)) n

/-- The slice index is emptied (R61, R133); what the ring holds stays, and nothing takes it for an entry (R43, R262). -/
def History.emptyIndex (h : History) : History :=
  { h with index := [], written := []
           indexOld := h.index.foldl (fun (t : Tab IndexEntry) e => Tab.put t e.1 e.2) h.indexOld }

/-! ### Ports, cores and other parts by number -/

/-- Port `p`. -/
def State.port (s : State) (p : Nat) : Port := Tab.get Port.empty s.ports p

def State.setPort (s : State) (p : Nat) (x : Port) : State := { s with ports := Tab.set Port.empty s.ports p x }

/-- A lane: a port or a lane of the stay link. -/
def State.lane (s : State) : Lane → Port
  | .port p => s.port p.val
  | .stay l => Tab.get Port.empty s.stay l.val

def State.setLane (s : State) (l : Lane) (x : Port) : State :=
  match l with
  | .port p => s.setPort p.val x
  | .stay l => { s with stay := Tab.set Port.empty s.stay l.val x }

/-- The number of a lane: 0 to 191 the ports; 192 to 195 the lanes of the stay link, which count as ports do (R316) and whose
counters no object shows (log entry 22). -/
def laneNum : Lane → Nat
  | .port p => p.val
  | .stay l => 192 + l.val

/-- Add to a counter of a lane. -/
def State.laneBump (s : State) (l : Lane) (k : Nat → Nat) (n : Nat := 1) : State := s.bump (k (laneNum l)) n

def State.core (s : State) (g : Nat) : Core := Tab.get Core.empty s.cores g

def State.setCore (s : State) (g : Nat) (x : Core) : State := { s with cores := Tab.set Core.empty s.cores g x }

def State.queue (s : State) (q : Nat) : Queue := Tab.get Queue.empty s.host.queues q

def State.setQueue (s : State) (q : Nat) (x : Queue) : State :=
  { s with host := { s.host with queues := Tab.set Queue.empty s.host.queues q x } }

def State.gen (s : State) (n : Nat) : PulseGen := Tab.get PulseGen.empty s.pulse n

def State.setGen (s : State) (n : Nat) (x : PulseGen) : State :=
  { s with pulse := Tab.set PulseGen.empty s.pulse n x }

def State.tin (s : State) (n : Nat) : Tin := Tab.get Tin.empty s.tins n

def State.setTin (s : State) (n : Nat) (x : Tin) : State := { s with tins := Tab.set Tin.empty s.tins n x }

/-! ### Twin and roles -/

/-- TwinMode: 0 SOLO, 1 paired (R315). -/
def State.paired (s : State) : Bool := decide (s.imm cTwinMode = 1)

/-- The stay link carries messages: a partner is heard, and the unit is paired (R315, R316). -/
def State.stayUp (s : State) : Bool := s.paired && s.twin.partnerUp

/-! ### Frames -/

/-- 32 words: those given, then fill. -/
def fillWords (w : List Word) : List Word := (w ++ List.replicate 32 0#64).take 32

/-- Put a frame of a sequence on the transmitter of a lane: CRC, scrambler and stuffing (R75 to R79). -/
def State.putFrame (s : State) (l : Lane) (seq : BitVec 10) (flag : Bool) (kind : Nat) (words : List Word) : State :=
  let x := s.lane l
  let w := x.tx.send (frameBits seq (frameType flag kind) words)
  (s.setLane l { x with tx := w.1 }).emit (.downlink (laneNum l) w.2)

/-- The next frame of a lane's own sequence. -/
def State.sendFrame (s : State) (l : Lane) (flag : Bool) (kind : Nat) (words : List Word) : State :=
  let s := s.putFrame l (s.lane l).txSeq flag kind words
  s.setLane l { s.lane l with txSeq := (s.lane l).txSeq + 1 }

/-! ### The stay link (R316 to R318) -/

/-- The link-control word of a frame sent now: the last sequence received in order, where there is one (R317). -/
def State.linkControl (s : State) : Word :=
  match s.twin.rxSeq with
  | some q => BitVec.ofNat 64 (q.toNat * 2 ^ 54 + 2 ^ 53)
  | none => 0#64

/-- A lane in use: enabled in LaneMask, and ACTIVE (R316). -/
def State.laneInUse (s : State) (l : Fin 4) : Bool :=
  bit (s.conf cLaneMask) l.val && decide ((s.lane (.stay l)).st = .active)

/-- The lane of the next frame: round-robin over the lanes in use (R316). -/
def State.nextLane (s : State) : Option (Fin 4) :=
  ([0, 1, 2, 3].map (fun i => (⟨(s.twin.lane + i) % 4, Nat.mod_lt _ (by decide)⟩ : Fin 4))).find? s.laneInUse

/-- Send a DATA frame on lane `l` with the link-control word of now (R317). -/
def State.sendData (s : State) (l : Fin 4) (seq : BitVec 10) (bytes : List Byte) : State :=
  ({ s with twin := { s.twin with lane := (l.val + 1) % 4 } } : State).putFrame (.stay l) seq false 1
    (s.linkControl :: streamWords bytes)

/-- Send the frames that wait, while a lane is in use and fewer than 256 are unacknowledged (R317). -/
def State.pump (s : State) : List (List Byte) → State
  | [] => { s with twin := { s.twin with txQueue := [] } }
  | b :: rest =>
    match s.nextLane with
    | some l =>
      if s.twin.unacked.length < 256 then
        let s := s.sendData l s.twin.txSeq b
        State.pump { s with twin := { s.twin with
          txSeq := s.twin.txSeq + 1, unacked := s.twin.unacked ++ [⟨s.twin.txSeq, s.tb.c, b⟩] } } rest
      else { s with twin := { s.twin with txQueue := b :: rest } }
    | none => { s with twin := { s.twin with txQueue := b :: rest } }

/-- Send a stay-link message: message numbers rise by 1 (R318), and its bytes go out in DATA frames, which are kept until the
partner acknowledges them (R317). -/
def State.say (s : State) (m : StayMsg) : State :=
  if s.stayUp then
    let b := m.payload
    let parts := payloadParts b.length b
    let bytes := stayBytes m.type (s.twin.msgNo + 1) parts
    let s : State := { s with
      twin := { s.twin with msgNo := s.twin.msgNo + BitVec.ofNat 32 parts.length }
      out := .stay (s.twin.msgNo + BitVec.ofNat 32 parts.length) m :: s.out }
    s.pump (s.twin.txQueue ++ frameParts bytes.length bytes)
  else s

/-- The unit forwards its decisions: it is the deciding unit of a pair (R321). -/
def State.forwards (s : State) : Bool := s.paired && s.twin.deciding

/-- The unit takes its decisions itself: it does not follow a partner (R321). -/
def State.decides (s : State) : Bool := !s.twin.following

/-- The unit delivers: RUN as MAINMAST or SOLO (R259). -/
def State.delivers (s : State) : Bool :=
  decide (s.sys.dev = .run) && (decide (s.sys.role = .mainmast) || decide (s.sys.role = .solo))

/-- Change ReadyState (R320). -/
def State.setReady (s : State) (v : Nat) : State := { s with twin := { s.twin with ready := v } }

/-- The joiner asks for a join (R341 step 1). -/
def State.startJoin (s : State) : State :=
  let s : State := { s with twin := { s.twin with joining := true, joinAt := none, joinState := false, ready := 0,
                                                  left := false, matchRun := 0 } }
  s.say (.join .request)

/-- The number of a device state (R26). -/
def DevState.num : DevState → Nat
  | .powered => 0 | .boot => 1 | .standstill => 2 | .run => 3 | .fenced => 4 | .fault => 5

/-- The number of a role (R344). -/
def Role.num : Role → Nat
  | .solo => 0 | .mainmast => 1 | .mizzen => 2 | .fenced => 3

/-- A step that waits for the next fold is dropped: the device leaves STANDSTILL (R60). -/
def State.dropStep (s : State) : State := { s with tb := { s.tb with stepTarget := none, autoStep := none } }

/-- Change the device state and the role: a change of either sends a STATE report (R280 code 3), a change of the role
journals ROLE_CHANGE first (R319, R343). -/
def State.setStateRole (s : State) (d : DevState) (r : Role) : State :=
  if d = s.sys.dev ∧ r = s.sys.role then s
  else
    let data := [BitVec.ofNat 8 s.sys.dev.num, BitVec.ofNat 8 d.num, BitVec.ofNat 8 s.sys.role.num,
      BitVec.ofNat 8 r.num]
    let old := s.sys.role
    let s := if s.sys.dev = .standstill ∧ d ≠ .standstill then s.dropStep else s
    let s := { s with sys := { s.sys with dev := d, role := r } }
    let s := if r = old then s
      else s.journal 0x0801 srcDevice (jdata [(0, old.num), (1, r.num), (4, s.twin.highest.toNat)])
    s.reportAll 1 3 0x2000 data

end Sys2Proof.Machine
end

