-- ==== Sys2Proof/Machine/PortTiming.lean ====
section
/-! DEFINITION. Port timing: markers and echoes (R109 to R115), the delay states (R116), delay steps (R117), and the
extension of a local time to a time word (R119). Delays are in port-delay units u of 1/16 fu. -/

namespace Sys2Proof.Machine

/-- Bits of a word: `n` bits from `lo` up. -/
def wbits (w : Word) (lo n : Nat) : Nat := w.toNat / 2 ^ lo % 2 ^ n

/-- The marker word of number `m` and time `ts` (R109). -/
def markerWord (m : BitVec 8) (ts : Tw) : Word :=
  BitVec.ofNat 64 (2 * 2 ^ 61 + m.toNat * 2 ^ 53 + ts.toNat % 2 ^ 37 * 2 ^ 16)

/-- The phase term P = Φ * 64 / 5 u, to the nearest, ties to even (R115). -/
def Timing.phase (t : Timing) : Int := roundEven (t.phi * 64) 5

/-- The current round trip B + P (R115). -/
def Timing.roundTrip (t : Timing) : Int := t.b + t.phase

/-- The current downlink delay (R115). -/
def Timing.dd (t : Timing) (asym : Int) : Int := roundEven (t.roundTrip - asym) 2

/-- A signed value as the raw value of 64 bits; the width of its type cuts it. -/
def rawInt (v : Int) : Nat := (v % 2 ^ 64).toNat

/-- The round trip that RoundTrip and UplinkDelay show: in FIXED that of the last accepted echo (R114, R121). -/
def Timing.shown (t : Timing) : Int := if t.ds = .fixed then t.rtt else t.roundTrip

/-- The change of the phase-interpolator code, modulo 128 into -64 to +63 (R115). -/
def codeChange (old new : BitVec 7) : Int := (new - old).toInt

/-- The code read at the tick of raw count `c` (R115); in HOLD the phase term is frozen (R116). -/
def Timing.readCode (t : Timing) (c : BitVec 64) (code : BitVec 7) : Timing :=
  let phi := match t.lastCode with
    | none => t.phi
    | some old => if t.ds = .hold then t.phi else t.phi + codeChange old code
  { t with lastCode := some code, phi := phi, phis := ((c, phi) :: t.phis).take 64 }

/-- The phase term at the tick of raw count `c` (R115): by the last reading at or before it; before the first reading Φ is
0. -/
def Timing.phaseAt (t : Timing) (c : BitVec 64) : Int :=
  match t.phis.find? (fun r => decide (0 ≤ (c - r.1).toInt)) with
  | some r => roundEven (r.2 * 64) 5
  | none => 0

/-- Enter ACQUIRING (R115, R116): Φ and the samples restart. -/
def Timing.acquire (t : Timing) (fromNone : Bool) : Timing :=
  { t with ds := .acquiring, phi := 0, phis := [], samples := [], rejects := 0, fromNone := fromNone, firstDue := t.firstDue }

/-- Entry of the port to ACTIVE from EXCHANGE (R109, R116, R117). -/
def Timing.active (t : Timing) (fixed : Bool) : Timing :=
  { Timing.empty with
    lastCode := t.lastCode
    ds := if fixed then .fixed else .acquiring
    forwarded := t.forwarded }

/-- The port leaves service: NONE (R116). -/
def Timing.leave (t : Timing) : Timing := { Timing.empty with lastCode := t.lastCode }

/-- HOLD when the port enters IDLE or LOCK from TRACKING (R116). -/
def Timing.hold (t : Timing) : Timing := if t.ds = .tracking then { t with ds := .hold } else t

/-- TRACKING begins: the delay at this moment, and the frame count from which tracking is without interruption (R117). -/
def Timing.track (t : Timing) (asym : Int) : Timing :=
  let t := { t with ds := .tracking, rejects := 0, trackedFrom := t.f }
  { t with ddAtTrack := t.dd asym }

/-- Realigned: HOLD returns to TRACKING (R116). -/
def Timing.realigned (t : Timing) (asym : Int) : Timing := if t.ds = .hold then t.track asym else t

/-- IDLE exit: HOLD returns to ACQUIRING (R116). -/
def Timing.idleExit (t : Timing) : Timing := if t.ds = .hold then t.acquire false else t

/-- A takeover restarts the acquisition of a port that measures; it does not count as begun from NONE, and DA takes its
first value at its end only where there is none (R116, R117). -/
def Timing.takeover (t : Timing) : Timing :=
  match t.ds with
  | .tracking | .hold | .acquiring => { t.acquire false with firstDue := t.da.isNone }
  | .none | .fixed => t

/-- DelayMode at a commit slice (R116). -/
def Timing.setFixed (t : Timing) (fixed : Bool) : Timing :=
  match t.ds, fixed with
  | .none, _ => t
  | .fixed, false => t.acquire false
  | .fixed, true => t
  | _, true => { t with ds := .fixed }
  | _, false => t

/-- The parameters of a measurement (R113, R114). -/
structure TimingConf where
  asym : Int
  fixedDelay : Int
  avgShift : Nat
  acquireCount : Nat
  tolerance : Int
  rejectLimit : Nat
  maxStep : Int
  local_ : Int
  turnaround : Int
  deriving DecidableEq, Repr

/-- The parameters in force for port `p`. -/
def State.timingConf (s : State) (p : Nat) : TimingConf :=
  ⟨s.confInt 32 (cPortAsymmetry p), s.conf (cPortFixedDelay p), s.conf cAvgShift, s.conf cAcquireCount,
    s.conf cEchoTolerance, s.conf cRejectLimit, s.conf cMaxDelayStep, s.conf cLocalTolerance, (s.port p).turnaround⟩

/-- The place of an echo's bit 63 within the tick of the command, in fifths of a u: the receive-clock cycle, the bit at
102.4 fu and the code at 0.8 fu (R112). -/
def echoFifths (c : EchoCapture) : Int := 80 * c.cycle + 8192 * c.bit + 64 * c.code.toNat

/-- The raw count of the tick that holds an echo's bit 63 (R115), `c` being that of the command's tick. -/
def echoTick (p : EchoCapture) (c : BitVec 64) : BitVec 64 :=
  c + BitVec.ofInt 64 (echoFifths p / (80 * tickFu) * tickFu)

/-- Te in u modulo 2^68 (R112): the rule of R45 with the sub-tick parts added to the raw count, less the device's latency,
rounded once, to the nearest u. -/
def Timebase.te (t : Timebase) (p : EchoCapture) (latency : Int) : Int :=
  roundEven (80 * 2 ^ 40 * (t.c.toNat : Int) + 2 ^ 40 * echoFifths p + 80 * t.b + (80 * (t.c - t.cref).toInt + echoFifths p) * t.f -
    5 * 2 ^ 40 * latency) (5 * 2 ^ 40)

/-- The round-trip sample of an echo (R113), all in u. -/
def rttOf (te : Int) (ts : Tw) (turnaround hold : Int) : Int :=
  (BitVec.ofInt 68 (te - 16 * (ts.toNat : Int))).toInt - 16 * turnaround - 16 * hold

/-- The difference of an echo's low 29 bits from Ts modulo 2^29 (R114 check 5). -/
def localDiff (echo : Word) (ts : Tw) : Int := (echo.setWidth 29 - ts.setWidth 29).toInt

/-- What an echo did: not processed in NONE; rejected, perhaps for its local time; accepted. -/
inductive EchoResult where
  | ignored | rejected (localTime : Bool) | accepted
  deriving DecidableEq, Repr

/-- An echo is rejected: the delay estimate is unchanged, but RejectLimit consecutive rejections in TRACKING restart the
acquisition (R114, R116). -/
def Timing.reject (t : Timing) (k : TimingConf) : Timing :=
  if t.ds = .tracking then
    if k.rejectLimit ≤ t.rejects + 1 then t.acquire false else { t with rejects := t.rejects + 1 }
  else t

/-- The highest less the lowest of the samples. -/
def spread (l : List Int) : Int := (l.foldl max (l.headD 0)) - (l.foldl min (l.headD 0))

/-- An accepted echo: its round trip `rtt` and its base sample `smp` (R115, R116). -/
def Timing.accept (t : Timing) (k : TimingConf) (rtt smp : Int) : Timing :=
  match t.ds with
  | .acquiring =>
    let l := t.samples ++ [smp]
    if l.length < k.acquireCount then { t with samples := l }
    else if 4 * k.tolerance < spread l then { t with samples := [] }
    else
      let t1 := { t with b := roundEven l.sum l.length, samples := [], firstDue := t.firstDue || t.fromNone,
                         reacquired := !t.fromNone }
      t1.track k.asym
  | .tracking => { t with b := roundEven (t.b * 2 ^ k.avgShift + (smp - t.b)) (2 ^ k.avgShift), rejects := 0 }
  | .fixed => { t with rtt := rtt }
  | .none | .hold => t

/-- One echo with its arrival `te` in u, in the tick of raw count `tick` (R114): `active` says that the port is in ACTIVE. -/
def Timing.echo (t : Timing) (k : TimingConf) (active : Bool) (w : Word) (te : Int) (tick : BitVec 64) : Timing × EchoResult :=
  if t.ds = .none then (t, .ignored)
  else
    let m := BitVec.ofNat 8 (wbits w 53 8)
    match t.sent.find? (fun x => x.m = m) with
    | none => (t.reject k, .rejected false)
    | some x =>
      let rtt := rttOf te x.ts k.turnaround (wbits w 29 24)
      let smp := rtt - t.phaseAt tick
      if !active || x.used || decide (rtt < 0 ∨ 327680000 < rtt) then (t.reject k, .rejected false)
      else if k.local_ < |localDiff w x.ts| then (t.reject k, .rejected true)
      else if t.ds = .hold ∨ (t.ds = .tracking ∧ k.tolerance < |smp - t.b|) then (t.reject k, .rejected false)
      else
        let t := { t with sent := t.sent.map (fun (y : Sent) => if y.m = m ∧ y.ts = x.ts then { y with used := true } else y) }
        (t.accept k rtt smp, .accepted)

/-- A delay step falls at the present frame count (R117): the grid of 512, or the first frame after an acquisition
entered from NONE. -/
def Timing.stepDue (t : Timing) : Bool := decide (t.f % 512 = 0) || (t.firstDue && decide (t.ds = .tracking) && t.da.isNone)

/-- The dd that a step uses (R117). -/
def Timing.stepDd (t : Timing) : Int :=
  if 512 ≤ t.f ∧ t.trackedFrom ≤ t.f - 512 then Tab.get t.ddAtTrack t.latched (t.f - 512) else t.ddAtTrack

/-- The own value of DA at a delay step, and whether it jumped (R117). -/
def Timing.ownDa (t : Timing) (k : TimingConf) : Option Int × Bool :=
  match t.ds with
  | .fixed => (some k.fixedDelay, false)
  | .tracking =>
    let dd := t.stepDd
    match t.da with
    | none => (some dd, false)
    | some da =>
      if t.firstDue then (some dd, false)
      else if t.reacquired && decide (k.tolerance < |dd - da|) then (some dd, true)
      else
        let d := dd - da
        (some (da + (if d < -k.maxStep then -k.maxStep else if k.maxStep < d then k.maxStep else d)), false)
  | _ => (t.da, false)

/-- The latch of Dd at a frame on the grid (R117); only the latest is kept besides the one a step still reads. -/
def Timing.latch (t : Timing) (k : TimingConf) : Timing :=
  if t.f % 512 = 0 ∧ t.ds = .tracking then { t with latched := Tab.put (t.latched.filter (fun e => t.f ≤ e.1 + 512)) t.f (t.dd k.asym) }
  else t

/-- The delay step at the present frame of a unit that takes its own measurement (R117): the timing, and a jump. -/
def Timing.stepOwn (t : Timing) (k : TimingConf) : Timing × Bool :=
  if t.stepDue then
    let r := t.ownDa k
    let tracking := decide (t.ds = .tracking)
    ({ t with da := r.1, firstDue := t.firstDue && !(tracking || decide (t.ds = .fixed)),
              reacquired := t.reacquired && !tracking }, r.2)
  else (t, false)

/-- A follower expects the DA of its partner at the present frame (R118, R329): at a step of the grid once a DA or an own
measurement exists, and at its own first step off the grid (DEDUCED, log entry 48). -/
def Timing.expectsDa (t : Timing) : Bool :=
  let measures := decide (t.ds = .tracking) || decide (t.ds = .fixed)
  if t.f % 512 = 0 then t.da.isSome || measures else t.stepDue

/-- A follower takes the DA that its partner decided for frame `f` (R118, R329). -/
def Timing.takeForwarded (t : Timing) (f : Nat) (da : Int) : Timing :=
  { t with da := some da, waiting := none, missing := false, forwarded := t.forwarded.filter (fun e => f < e.1) }

/-- The local time of a hit word or waveform header: 37 bits in fu (R119). -/
def localTime (w : Word) : Nat := wbits w 25 24 * 8192 + wbits w 12 13

/-- The provisional time tp of a local time in a frame that arrived at `ta` (R119). -/
def extend (ta : Tw) (da : Int) (l : Nat) : Tw :=
  let daFu := roundEven da 16
  let q := ta - BitVec.ofInt 64 daFu
  let d := ((BitVec.ofNat 37 l) - q.setWidth 37).toInt
  q + BitVec.ofInt 64 d + BitVec.ofInt 64 daFu

/-- The horizon of R123. -/
def inHorizon (past future : Nat) (t ta : Tw) : Bool :=
  let d := twDiff t ta
  decide (-((max past 129 : Nat) : Int) * sliceFu ≤ d) && decide (d < (future : Int) * sliceFu)

/-- PHASE_INTERPOLATOR_READ: at a tick the device reads the code of a port (R115). -/
def execPhaseInterpolatorRead (dt : Nat) (p : PortId) (code : BitVec 7) (s : State) : Host.Outcome State Fault Refusal :=
  let s := s.elapse dt
  let x := s.port p.val
  .next (s.setPort p.val { x with timing := x.timing.readCode s.tb.c code })

end Sys2Proof.Machine
end

