-- ==== Sys2Proof/Machine/Aes.lean ====
section
/-! DEFINITION. AES-CMAC (RFC 4493), which R172 names for the MAC of an alert datagram: AES-128 over bytes, and the MAC of a
message of 56 bytes. PRESUMED from the standards that the manual cites (log entry 15). -/

namespace Sys2Proof.Machine

/-- Multiplication by x in GF(2^8) modulo x^8 + x^4 + x^3 + x + 1. -/
def gfDouble (b : Byte) : Byte := if b.msb then (b <<< 1) ^^^ 0x1B#8 else b <<< 1

/-- Multiplication in GF(2^8): the bits of `b` from the lowest. -/
def gfMul (a b : Byte) : Byte :=
  ((List.range 8).foldl (fun (r : Byte × Byte) i => (if b.getLsbD i then r.1 ^^^ r.2 else r.1, gfDouble r.2)) (0#8, a)).1

/-- The inverse in GF(2^8), 0 of 0: the 254th power. -/
def gfInv (b : Byte) : Byte :=
  let b2 := gfMul b b
  let b4 := gfMul b2 b2
  let b8 := gfMul b4 b4
  let b16 := gfMul b8 b8
  let b32 := gfMul b16 b16
  let b64 := gfMul b32 b32
  let b128 := gfMul b64 b64
  gfMul (gfMul (gfMul b2 b4) (gfMul b8 b16)) (gfMul (gfMul b32 b64) b128)

/-- The substitution of AES: inverse, then the affine map. -/
def aesSub (b : Byte) : Byte :=
  let v := gfInv b
  v ^^^ v.rotateLeft 1 ^^^ v.rotateLeft 2 ^^^ v.rotateLeft 3 ^^^ v.rotateLeft 4 ^^^ 0x63#8

/-- Byte-wise exclusive or. -/
def xorBytes (a b : List Byte) : List Byte := List.zipWith (· ^^^ ·) a b

/-- The next round key of AES-128. -/
def aesNextKey (k : List Byte) (rcon : Byte) : List Byte :=
  let w := fun i => (k.drop (4 * i)).take 4
  let t := ((w 3).drop 1 ++ (w 3).take 1).map aesSub
  let a := xorBytes (xorBytes (w 0) t) [rcon, 0#8, 0#8, 0#8]
  let b := xorBytes (w 1) a
  let c := xorBytes (w 2) b
  a ++ b ++ c ++ xorBytes (w 3) c

/-- The shift of rows; the state is held column by column. -/
def aesShift (s : List Byte) : List Byte :=
  [0, 5, 10, 15, 4, 9, 14, 3, 8, 13, 2, 7, 12, 1, 6, 11].map (fun i => s.getD i 0#8)

/-- The mix of one column. -/
def aesMixColumn (c : List Byte) : List Byte :=
  let x := fun i => c.getD (i % 4) 0#8
  (List.range 4).map (fun i => gfDouble (x i) ^^^ gfDouble (x (i + 1)) ^^^ x (i + 1) ^^^ x (i + 2) ^^^ x (i + 3))

def aesMix (s : List Byte) : List Byte :=
  (List.range 4).flatMap (fun i => aesMixColumn ((s.drop (4 * i)).take 4))

/-- The rounds of AES-128 by their round constants; the last round mixes no columns. -/
def aesRounds (s k : List Byte) : List Byte → List Byte
  | [] => s
  | rc :: rest =>
    let k' := aesNextKey k rc
    let t := aesShift (s.map aesSub)
    aesRounds (xorBytes (if rest.isEmpty then t else aesMix t) k') k' rest

/-- AES-128 of one block of 16 bytes. -/
def aes128 (key block : List Byte) : List Byte :=
  aesRounds (xorBytes block key) key
    [0x01#8, 0x02#8, 0x04#8, 0x08#8, 0x10#8, 0x20#8, 0x40#8, 0x80#8, 0x1B#8, 0x36#8]

/-- The 16 bytes of a 128-bit number, most significant first. -/
def be16 (v : BitVec 128) : List Byte := (leBytes 16 v.toNat).reverse

/-- The doubling of RFC 4493 in GF(2^128). -/
def cmacDouble (v : BitVec 128) : BitVec 128 := if v.msb then (v <<< 1) ^^^ 0x87#128 else v <<< 1

/-- The chaining of CMAC over whole blocks. -/
def cmacChain (key : List Byte) (x : List Byte) : List (List Byte) → List Byte
  | [] => x
  | b :: bs => cmacChain key (aes128 key (xorBytes x b)) bs

/-- AES-CMAC of a message of 56 bytes (RFC 4493): three whole blocks and one of 8 bytes, padded and masked with K2. -/
def cmac56 (key : List Byte) (m : List Byte) : List Byte :=
  let l := BitVec.ofNat 128 (beNat (aes128 key (List.replicate 16 0#8)))
  let k2 := be16 (cmacDouble (cmacDouble l))
  let last := xorBytes ((m.drop 48).take 8 ++ [0x80#8] ++ List.replicate 7 0#8) k2
  cmacChain key (List.replicate 16 0#8) [m.take 16, (m.drop 16).take 16, (m.drop 32).take 16, last]

/-- The MAC of an alert datagram (R172): the most significant 64 bits. -/
def alertMac (key : List Byte) (m : List Byte) : List Byte := (cmac56 key (m.take 56)).take 8

end Sys2Proof.Machine
end

