-- ==== Sys2Proof/Machine/Merge.lean ====
section
/-! DEFINITION. The merge and the log: seal times (R130), buckets and the merge buffer (R127, R136, R137), stragglers
(R134, R135), the order of a slice (R23, R127 to R129), the reef ladder (R149 to R151), and the write of a slice to the
log and its index entry (R138 to R148, R332). -/

namespace Sys2Proof.Machine

/-! ### Seals -/

/-- seal(n) after the seal before it (R130). -/
def State.sealAfter (s : State) (n : Nat) (prev : Option Tw) : Tw :=
  let a := sliceStart (n + 1 + s.confAt n cSealDelay)
  match prev with
  | none => a
  | some p => if before a (p + 0x80000#64) then p + 0x80000#64 else a

/-- The seal of the slice `k` after `m`, where `prev` is the seal before that of `m`. -/
def State.sealFrom (s : State) (m : Nat) (prev : Option Tw) : Nat → Tw
  | 0 => s.sealAfter m prev
  | k + 1 => State.sealFrom s (sliceAdd m 1) (some (s.sealAfter m prev)) k

/-- seal(n) of a slice that has not closed (R130). -/
def State.sealOf (s : State) (n : Nat) : Tw :=
  match Tab.look s.hist.seals n with
  | some t => t
  | none =>
    match s.hist.nextSeal with
    | some m => s.sealFrom m s.hist.lastSeal (sliceDiff n m).toNat
    | none => sliceStart (n + 1 + s.confAt n cSealDelay)

/-- Slice `n` belongs to the run: it does not lie before its first slice, nor at or after its STANDSTILL commit (R29). The
slices of a run that has ended stay its slices, so that what arrives late for them is a straggler (R29, R134). -/
def State.inRun (s : State) (n : Nat) : Bool :=
  sliceLe s.hist.firstSlice n &&
    (match s.hist.runStop with | some c => sliceLt n c | none => s.hist.nextSeal.isSome)

/-! ### The merge buffer -/

/-- The pages of one slice's buckets: 512 words a page, a bucket for each lane-group sorter (R127, R136). -/
def pagesOf (l : List Hit) : Nat :=
  ((List.range 24).map (fun g => (l.countP (fun h => h.port / 8 = g) + 511) / 512)).sum

/-- The pages in use, of 8,192 (R136). -/
def History.pages (h : History) : Nat := (h.buckets.map (fun e => pagesOf e.2)).sum

/-- MergeFill: the bytes of the pages in use (R149, R158; log entry 14). -/
def State.mergeFill (s : State) : Nat := 4096 * s.hist.pages

/-- Hits of a slice are dropped: counted as REEF3_SLICE against it (R35, R137, R151). -/
def State.loseHits (s : State) (n k : Nat) : State := s.lose .reef3 k n srcWhole

/-- Drop a slice that has not sealed, for want of a page (R137). -/
def State.dropUnsealed (s : State) (n : Nat) : State :=
  let k := (Tab.get [] s.hist.buckets n).length
  let s := { s with hist := { s.hist with buckets := Tab.drop s.hist.buckets n, full := Tab.put s.hist.full n k } }
  ((s.loseHits n k).bump kMergeFull).bump64 kSlicesDropped

/-- Drop unsealed slices, the oldest first, until a page is free (R137). -/
def State.makeRoom (s : State) (n : Nat) : Nat → State
  | 0 => s
  | k + 1 =>
    if s.hist.pages < 8192 then s
    else if (Tab.look s.hist.full n).isSome then State.makeRoom s (sliceAdd n 1) k
    else State.makeRoom (s.dropUnsealed n) (sliceAdd n 1) k

/-- One more hit of a slice that was dropped for want of a page (R137). -/
def State.discardFull (s : State) (n : Nat) : State :=
  let s : State :=
    match Tab.look s.hist.full n with
    | some k => { s with hist := { s.hist with full := Tab.put s.hist.full n (k + 1) } }
    | none => s
  s.loseHits n 1

/-- Place an in-order hit in the bucket of its slice (R127), taking a page where its bucket needs one. -/
def State.bucket (s : State) (h : Hit) : State :=
  let n := sliceOf h.tw
  if (Tab.look s.hist.full n).isSome then s.discardFull n
  else
    let l := Tab.get [] s.hist.buckets n
    let need := decide (l.countP (fun x => x.port / 8 = h.port / 8) % 512 = 0)
    let s := if need then s.makeRoom ((s.hist.nextSeal).getD n) 4096 else s
    if (Tab.look s.hist.full n).isSome || (need && decide (8192 ≤ s.hist.pages)) then s.discardFull n
    else
      let s := { s with hist := { s.hist with buckets := Tab.put s.hist.buckets n (Tab.get [] s.hist.buckets n ++ [h]) } }
      { s with hist := { s.hist with highWater := max s.hist.highWater s.mergeFill } }

/-- The log hit word of a hit (R12, R129). -/
def Hit.word (h : Hit) : Word :=
  BitVec.ofNat 64 (sliceRel h.tw * 2 ^ 44 + h.port * 2 ^ 36 + h.chan * 2 ^ 24 + h.flags.toNat * 2 ^ 20 +
    h.payload.toNat)

/-- The straggler-log entry of a hit (R135). -/
def stragglerEntry (h : Hit) (ta : Tw) : BitVec 128 :=
  let n := sliceOf h.tw
  let late := min (sliceDiff (sliceOf ta) n).toNat 0xFFFFF
  (h.word ||| 0x800000#64).setWidth 128 ||| (BitVec.ofNat 128 (n * 2 ^ 20 + late) <<< 64)

/-- A straggler: counted once, and logged while the arrival slice's limit lasts (R134, R135). -/
def State.straggler (s : State) (h : Hit) (ta : Tw) : State :=
  let n := sliceOf h.tw
  let s := s.lose .straggler 1 n h.port
  let s := { s with hist := { s.hist with stragglers := Tab.set 0 s.hist.stragglers n (Tab.get 0 s.hist.stragglers n + 1) } }
  let used := if s.hist.stragSlice = s.slice then s.hist.stragCount else 0
  if used < s.conf cStragglerLogLimit then
    { s with hist := { s.hist with
      stragLog := Tab.set 0#128 s.hist.stragLog s.hist.stragHead (stragglerEntry h ta)
      stragHead := (s.hist.stragHead + 1) % (if s.count kHbmDegraded = 1 then 4194304 else 8388608)
      stragSlice := s.slice
      stragCount := used + 1 } }
  else ({ s with hist := { s.hist with stragSlice := s.slice, stragCount := used } }).bump kStragglerUnlogged

/-- A hit reaches the merge with arrival time `ta`: in order before the seal of its slice, otherwise a straggler (R131,
R132); outside the run it is discarded and counted in StandstillDiscard (R29, R100). DESIGN CHOICE (log entry 49): a raw hit
whose time lies before the run's first slice is taken so as well, as R202 says of a feature hit. -/
def State.mergeHit (s : State) (h : Hit) (ta : Tw) : State :=
  let n := sliceOf h.tw
  if !s.inRun n then s.bump (kPortStandstillDiscard h.port)
  else if sliceLt n s.hist.nextClose || !(before ta (s.sealOf n)) then s.straggler h ta
  else s.bucket h

/-! ### The order of a slice (R23, R127, R128) -/

/-- Time, port and channel as one number. -/
def Hit.key (h : Hit) : Nat := (sliceRel h.tw * 256 + h.port) * 4096 + h.chan

/-- `a` stands before `b`, or beside it, in the order of R23. -/
def Hit.le (a b : Hit) : Bool := decide (a.key < b.key) || (decide (a.key = b.key) && decide (a.order ≤ b.order))

/-- The stable sort of R127. -/
def sortHits (l : List Hit) : List Hit := l.insertionSort (fun a b => a.le b = true)

/-! ### The log, pins and headroom -/

/-- The words of the log ring: 44 GiB, half of it on one stack (R139, R155). -/
def State.logWords (s : State) : Nat := if s.count kHbmDegraded = 1 then 2952790016 else 5905580032

/-- How many of `k` blocks have been read after `t` fu, one after the other from the `i`-th on (R147). -/
def blocksRead (seq t i : Nat) : Nat → Nat
  | 0 => 0
  | k + 1 =>
    let d := Config.readTime seq i
    if t < d then 0 else blocksRead seq (t - d) (i + 1) k + 1

/-- The pin of a record at raw count `c` (R147): during its transfer it moves to the next block that the record needs as the
one before is read; after the last one it stays there until the record is complete. -/
def Record.pinAt (r : Record) (c : BitVec 64) : Option Nat :=
  r.pin.map (fun p => max p (r.reads.getD (blocksRead r.seq.toNat (c - r.readC).toNat 0 (r.reads.length - 1)) p))

/-- The positions of the pins (R147), in words since the start of the run. -/
def State.pins (s : State) : List Nat :=
  (s.trig.contexts.filterMap (fun c => if c.2.hollow then none else some c.2.pin)) ++
    s.trig.records.filterMap (fun r => r.2.pinAt s.tb.c)

/-- The size of a ring of the history store: half of it on one stack (R139, R155). -/
def State.ring (s : State) (n : Nat) : Nat := if s.count kHbmDegraded = 1 then n / 2 else n

/-- The place of slice `n` in the index ring (R144, R155). -/
def State.indexSlot (s : State) (n : Nat) : Nat := n % s.ring 33554432

/-- PinHeadroom in bytes (R148). -/
def State.headroom (s : State) : Nat :=
  8 * (s.pins.map (fun p => p + s.logWords - s.hist.head)).foldl min s.logWords

/-- An entry of the slice index, or one that is written and waits to be indexed. -/
def State.entryOf (s : State) (n : Nat) : Option IndexEntry :=
  match Tab.look s.hist.written n with
  | some e => some e
  | none =>
    match Tab.look s.hist.index (s.indexSlot n) with
    | some e => if e.slice = n then some e else none
    | none => none

/-- The entry of a slice at or after FirstRunSlice and OldestSlice and at or before NewestSlice (R145). -/
def State.inIndex (s : State) (n : Nat) : Option IndexEntry :=
  match Tab.look s.hist.index (s.indexSlot n) with
  | some e => if e.slice = n && sliceLe s.hist.firstRun n && sliceLe s.hist.oldest n && sliceLe n s.hist.newest then some e else none
  | none => none

/-- A valid entry of the slice index: its CRC holds as well (R145). -/
def State.indexed (s : State) (n : Nat) : Option IndexEntry :=
  if s.hist.badIndex.contains (s.indexSlot n) then none else s.inIndex n

/-- The first word of the next valid entry after slice `n`, or the head (R145); `k` bounds the search. -/
def State.nextValid (s : State) (n : Nat) : Nat → Nat
  | 0 => s.hist.head
  | k + 1 =>
    let m := sliceAdd n 1
    if sliceLt s.hist.newest m then s.hist.head
    else match s.indexed m with
      | some e => e.first
      | none => State.nextValid s m k

/-- The blocks of the ring that an entry whose CRC fails takes with it (R145): from its first word to the first word of the
next valid entry. -/
def State.lostWith (s : State) (n : Nat) : List Nat :=
  match s.inIndex n with
  | some e =>
    if s.hist.badIndex.contains (s.indexSlot n) then
      let b := s.nextValid n ((sliceDiff s.hist.newest n).toNat + 1)
      (List.range ((b + 31) / 32 - e.first / 32)).map (fun i => (e.first / 32 + i) % (s.logWords / 32))
    else []
  | none => []

/-- OldestSlice when the log has been written up to `head` and `newest` is indexed (R146); the last block is written whole,
with padding (R140). -/
def State.oldestFor (s : State) (head newest : Nat) : Nat :=
  let upTo := (head + 31) / 32 * 32
  let gone := fun (e : Nat × IndexEntry) => decide (0 < e.2.words ∧ e.2.first + s.logWords < upTo)
  let past := ((s.hist.index ++ s.hist.written).filter gone).foldl
    (fun o e => if sliceLe o e.2.slice then sliceAdd e.2.slice 1 else o) s.hist.oldest
  let cap := (newest + sliceMod - (s.ring 33554432 - 8)) % sliceMod
  if sliceLt past cap && sliceLe s.hist.firstRun cap then cap else past

/-- The first log word of slice `n`, or the head where the slice is not in the log (R147, R165). -/
def State.firstWord (s : State) (n : Nat) : Nat := ((s.entryOf n).map (·.first)).getD s.hist.head

/-- Count the 32 hits of a block of the ring once as HBM_CRC, against the slice that holds its first word (R35, R138, R141,
R154); `read` says that a read found it. -/
def State.countBlock (s : State) (b dflt : Nat) (read : Bool) : State :=
  if s.hist.counted.contains b then s
  else
    let s := s.lose .hbmCrc 32 ((Tab.look s.hist.owners b).getD dflt) srcWhole
    let s := { s with hist := { s.hist with counted := b :: s.hist.counted } }
    if read then s.bump kHbmCrcBlocks else s

/-! ### The reef ladder -/

/-- The pending budget Q of a core (R198). -/
def Core.pendingBudget (c : Core) : Nat :=
  (c.queue.map (·.budget)).sum + (if c.running.isSome then c.budget else 0)

/-- Some FP input queue is filled to `p` percent or more of its limit (R149, R198). -/
def State.fpFilled (s : State) (n p : Nat) : Bool :=
  s.cores.any (fun c => decide (p * s.confAt n cQueueLimit ≤ 100 * c.2.pendingBudget))

/-- The conditions of R149 as ReefCause shows them. -/
def State.reefCause (s : State) (n : Nat) : Nat :=
  let mib := fun o => s.confAt n o * 1048576
  let fill := fun p => decide (p * 33554432 ≤ 100 * s.mergeFill)
  bnat (decide (s.headroom < mib cReef1Headroom)) + 2 * bnat (decide (s.headroom < mib cReef2Headroom)) +
    4 * bnat (decide (s.headroom < mib cReef3Headroom)) + 8 * bnat (fill (s.confAt n cReef2Merge)) +
    16 * bnat (fill (s.confAt n cReef3Merge)) + 32 * bnat (s.fpFilled n (s.confAt n cReef2FpQueue))

/-- The level that conditions give: the highest whose condition holds (R149). -/
def reefWant (cause : Nat) : Nat :=
  if bit cause 2 || bit cause 4 then 3
  else if bit cause 1 || bit cause 3 || bit cause 5 then 2
  else if bit cause 0 then 1 else 0

/-- The conditions of level `k`, each with its hysteresis, are clear (R150). -/
def State.reefClear (s : State) (n k : Nat) : Bool :=
  let room := fun o => decide ((s.confAt n o + s.confAt n cHeadroomHysteresis) * 1048576 ≤ s.headroom)
  let fill := fun p => decide (100 * s.mergeFill < (p - 10) * 33554432)
  match k with
  | 1 => room cReef1Headroom
  | 2 => room cReef2Headroom && fill (s.confAt n cReef2Merge) && !(s.fpFilled n (s.confAt n cReef2FpQueue - 10))
  | 3 => room cReef3Headroom && fill (s.confAt n cReef3Merge)
  | _ => false

/-- A slice is decided at level `lvl`: the level and the counters of R151. -/
def State.setReef (s : State) (n lvl clearRun : Nat) : State :=
  let old := s.hist.reef
  let up := fun (k key : Nat) (s : State) => if old < k ∧ k ≤ lvl then s.bump key else s
  let at_ := fun (k key : Nat) (s : State) => if k ≤ lvl then s.bump64 key else s
  let s := up 3 kReef3Entries (up 2 kReef2Entries (up 1 kReef1Entries s))
  let s := at_ 3 kSlicesAtReef3 (at_ 2 kSlicesAtReef2 (at_ 1 kSlicesAtReef1 s))
  { s with hist := { s.hist with reef := lvl, clearRun := clearRun, decided := Tab.put s.hist.decided n lvl } }

/-- The decision of the reef level for slice `n` (R149, R150). -/
def State.decideReef (s : State) (n : Nat) : State :=
  let cause := s.reefCause n
  let want := reefWant cause
  let old := s.hist.reef
  let s' := s.setStat kReefCause cause
  if old ≤ want then s'.setReef n want 0
  else if s.reefClear n old then
    if s.confAt n cReefHold ≤ s.hist.clearRun + 1 then s'.setReef n (old - 1) 0
    else s'.setReef n old (s.hist.clearRun + 1)
  else s'.setReef n old 0

/-! ### Writing a slice -/

/-- Bytes 0 to 7 of an index entry (R144). -/
def IndexEntry.head (e : IndexEntry) : List Byte := leBytes 6 e.slice ++ leBytes 2 e.epoch.toNat

/-- Byte 13 of an index entry (R144). -/
def IndexEntry.flags (e : IndexEntry) : Byte :=
  BitVec.ofNat 8 (e.level % 4 + 4 * bnat e.dropped + 8 * bnat e.poison + 16 * bnat e.degraded)

/-- The slice digest (R332). -/
def IndexEntry.digestOf (e : IndexEntry) (words : List Word) : BitVec 64 :=
  crc64 (words.flatMap wordBytes ++ e.head ++ [e.flags] ++ leBytes 4 e.hits)

/-- An index entry in its 32 bytes (R144); the log word is taken modulo the log's size `w`. -/
def IndexEntry.bytes (e : IndexEntry) (w : Nat) : List Byte :=
  let b := e.head ++ leBytes 5 (e.first % w) ++ [e.flags] ++ leBytes 2 (min e.stragglers 65535) ++ leBytes 4 e.hits ++
    leBytes 8 e.digest.toNat
  b ++ leBytes 4 (crc32c b).toNat

/-- The blocks that begin within words `a` to `b - 1` (R140, R154). -/
def newBlocks (w a b : Nat) : List Nat :=
  (List.range ((b + 31) / 32 - (a + 31) / 32)).map (fun i => ((a + 31) / 32 + i) % (w / 32))

/-- The padding words after word `b` (R140). -/
def padding (b : Nat) : List Word := List.replicate ((32 - b % 32) % 32) 0xFFFFFFFFFFFFFFFF#64

/-- Write words into the log ring from a position on. -/
def putLog (w : Nat) (t : Tab Word) (i : Nat) : List Word → Tab Word
  | [] => t
  | v :: vs => putLog w (Tab.set 0#64 t (i % w) v) (i + 1) vs

/-- Write the sorted words of slice `n` at the head (R138, R140); `bad` are the positions of uncorrectable words. -/
def State.writeSlice (s : State) (n level : Nat) (words : List Word) (bad : List Nat) : State :=
  let w := s.logWords
  let a := s.hist.head
  let b := a + words.length
  let fresh := newBlocks w a b
  let bad := bad.filter (· < words.length)
  let poison := bad.map (fun k => (a + k) % w / 32)
  let e : IndexEntry := ⟨n, (s.epochAt n).setWidth 16, a, level, false, !bad.isEmpty, decide (s.count kHbmDegraded = 1), 0,
    words.length, 0#64, words.length⟩
  let e : IndexEntry := { e with digest := e.digestOf words }
  let s := { s with hist := { s.hist with
    log := putLog w s.hist.log a (words ++ padding b)
    owners := fresh.foldl (fun (t : Tab Nat) k => Tab.put t k n) s.hist.owners
    poisoned := (s.hist.poisoned.filter (fun x => !fresh.contains x)) ++ poison
    counted := s.hist.counted.filter (fun x => !fresh.contains x)
    head := b
    written := Tab.put s.hist.written n e } }
  let s := s.bump kMergePoison bad.length
  let s := poison.foldl (fun s k => s.countBlock k n false) s
  { s with hist := { s.hist with oldest := s.oldestFor b s.hist.newest } }

/-- A slice that is not written: its index entry carries DROPPED and the number of its hits (R144, R151). -/
def State.dropSlice (s : State) (n level hits : Nat) : State :=
  let e : IndexEntry := ⟨n, (s.epochAt n).setWidth 16, s.hist.head, level, true, false, decide (s.count kHbmDegraded = 1), 0,
    hits, 0#64, 0⟩
  { s with hist := { s.hist with written := Tab.put s.hist.written n { e with digest := e.digestOf [] } } }

end Sys2Proof.Machine
end

