-- ==== Sys2Proof/Machine/Delivery.lean ====
section
/-! DEFINITION. Dealing and queues: the group table in force (R251), dealing (R252), when a record is full (R253), the
policies (R254), and the loss of a record as QUEUE_FULL. -/

namespace Sys2Proof.Machine

/-- A field of the group table (R251): every default is 0. -/
def groupObj (g off : Nat) : Obj := ⟨groupKey g off, 0⟩

/-- The members of a group at slice `n`: the queue numbers of the set bits (R251, R252). -/
def State.membersAt (s : State) (n g : Nat) : List Nat :=
  ((List.range 64).filter (fun i => bit (s.confAt n (groupObj g 0)) i)).map (fun i => 64 * g + i)

/-- A record that is held. -/
def State.record (s : State) (k : Nat) : Option Record := Tab.look s.trig.records k

def State.setRecord (s : State) (k : Nat) (r : Record) : State :=
  { s with trig := { s.trig with records := Tab.put s.trig.records k r } }

/-- Take a record out of the record-header ring and of every line: its entry and its pin are free (R178, R254, R256). -/
def State.freeRecord (s : State) (k : Nat) : State :=
  match s.record k with
  | none => s
  | some r =>
    let q := s.queue r.queue
    let s := s.setQueue r.queue { q with line := q.line.filter (· ≠ k) }
    { s with trig := { s.trig with records := Tab.drop s.trig.records k } }

/-- The loss of a record as QUEUE_FULL against queue `q` (R35, R254). -/
def State.loseRecord (s : State) (q closing : Nat) : State :=
  let s := s.lose .queueFull 1 closing (0x4000 + q)
  let x := s.queue q
  s.setQueue q { x with fullCount := x.fullCount + 1 }

/-- A record is counted as QUEUE_FULL against queue `q` and freed (R254). -/
def State.recordFull (s : State) (k q : Nat) : State :=
  match s.record k with
  | none => s
  | some r => (s.loseRecord q r.closing).freeRecord k

/-! ### Descriptors and completion entries (R242, R246, R253) -/

/-- The entries of the descriptor ring and of the completion ring. -/
def Queue.descs (q : Queue) : Nat := 2 ^ q.descLog2
def Queue.compls (q : Queue) : Nat := 2 ^ q.complLog2

/-- The descriptors posted and not consumed (R246). -/
def Queue.posted (q : Queue) : Nat := (q.descTail + q.descs - q.descHead) % q.descs

/-- A completion entry is free (R246). -/
def Queue.complFree (q : Queue) : Bool := decide ((q.complTail + 1) % q.compls ≠ q.complHead)

/-- The bytes of the buffers whose descriptors the device has read. -/
def Queue.room (q : Queue) : Nat := (q.fetched.map (fun d => d.len.toNat)).sum

/-- The reservation of a record (R253). -/
def Record.reservation (r : Record) : Nat := 96 + 8 * (r.covered + r.words)

/-- What the evaluation of the head of a line finds (R253): nothing to do, descriptors still to be read, room, full, or a
record that no wait can fit. -/
inductive Head where
  | none | unread | ok | full | never
  deriving DecidableEq, Repr

/-- Host memory can be reached (R253). -/
def State.hostReady (s : State) : Bool := decide (s.host.gen ≠ 0) && s.host.busMaster && s.host.d0

/-- The evaluation of record `r` at the head of queue `q` (R253). -/
def State.evaluate (s : State) (q : Queue) (r : Record) : Head :=
  let none_ := decide (q.posted + 1 = q.descs) && decide (q.fetched.length = q.posted) && decide (q.room < r.reservation)
  if q.state = .active && none_ then .never
  else if q.state ≠ .active || !s.hostReady || !q.complFree then .full
  else if r.reservation ≤ q.room then .ok
  else if q.fetched.length < q.posted then .unread
  else .full

/-- The head of a line, evaluated; while a transfer of the queue is in progress nothing is evaluated. -/
def State.headOf (s : State) (q : Nat) : Head :=
  let x := s.queue q
  match x.transfer, x.line with
  | none, k :: _ =>
    match s.record k with
    | some r => s.evaluate x r
    | none => .none
  | _, _ => .none

/-- Re-evaluate the lines of a list of queues until each waits, is empty or can start (R254). -/
def State.settleAll (s : State) : List Nat → Nat → State
  | [], _ => s
  | _ :: _, 0 => s
  | q :: qs, k + 1 =>
    match s.headOf q, (s.queue q).line with
    | .never, r :: _ => State.settleAll (s.recordFull r ((s.record r).map (·.firstQueue) |>.getD q)) (q :: qs) k
    | .full, r :: _ =>
      match s.record r with
      | none => s
      | some x =>
        if x.overflowed then State.settleAll (s.recordFull r x.firstQueue) (q :: qs) k
        else
          match s.conf (groupObj (q / 64) 9) with
          | 1 => State.settleAll (s.recordFull r q) (q :: qs) k
          | 2 =>
            let o := s.conf (groupObj (q / 64) 10)
            let y := s.queue q
            let s := s.setQueue q { y with line := y.line.filter (· ≠ r) }
            let z := s.queue o
            let s := s.setQueue o { z with line := z.line ++ [r] }
            State.settleAll (s.setRecord r { x with overflowed := true, queue := o }) (q :: o :: qs) k
          | _ => State.settleAll s qs k
    | _, _ => State.settleAll s qs k

/-- Evaluate the lines of queues; only a unit that delivers does (R253, R259, R330). -/
def State.settle (s : State) (qs : List Nat) : State :=
  if s.delivers then s.settleAll qs (4 * s.trig.records.length + 2 * qs.length + 8) else s

/-- Every queue that has a line. -/
def State.lines (s : State) : List Nat := (s.host.queues.filter (fun e => !e.2.line.isEmpty)).map Prod.fst

/-! ### Dealing -/

/-- The queue that a record is dealt to, with the DealCounter moved on (R252); none when the group has no member. -/
def State.deal (s : State) (n g cls : Nat) (first : Option Nat) : Option Nat × State :=
  let m := s.membersAt n g
  let kept := match first with | some q => if m.contains q then some q else none | none => none
  match kept with
  | some q => (some q, s)
  | none =>
    if m.isEmpty then (none, s)
    else if s.confAt n (groupObj g 8) = 1 then (m[cls % m.length]?, s)
    else
      let d := Tab.get 0 s.host.deal g
      (m[d % m.length]?, { s with host := { s.host with deal := Tab.set 0 s.host.deal g (d + 1) } })

/-- DealCounter is 0 again from a slice whose epoch changed Members or Dealing of the group (R252). -/
def State.resetDeal (s : State) (n : Nat) : State :=
  let before_ := (n + sliceMod - 1) % sliceMod
  let same := fun g => s.confAt n (groupObj g 0) = s.confAt before_ (groupObj g 0) &&
    s.confAt n (groupObj g 8) = s.confAt before_ (groupObj g 8)
  { s with host := { s.host with deal := s.host.deal.filter (fun e => same e.1) } }

/-- Deal a closed record: into the line of its queue, or counted as QUEUE_FULL when its group has no member or the
record-header ring is full (R178, R252). The queue it was dealt to is returned. -/
def State.dealRecord (s : State) (n g : Nat) (first : Option Nat) (r : Record) : Option Nat × State :=
  match s.deal n g r.trig.cls first with
  | (none, s) => (none, s.loseRecord (64 * g) r.closing)
  | (some q, s) =>
    if s.ring 8388608 ≤ s.trig.records.length then (some q, s.loseRecord q r.closing)
    else
      let k := r.seq.toNat
      let x := s.queue q
      let s := s.setQueue q { x with line := x.line ++ [k] }
      (some q, (s.setRecord k { r with queue := q, firstQueue := q }).settle [q])

/-! ### First reef (R151) -/

/-- The release of a record: counted once as REEF1_EXPENDABLE against its class and its closing slice. -/
def State.countRelease (s : State) (cls closing : Nat) : State :=
  (s.lose .reef1 1 closing (0x0200 + cls)).bump (kClsRecordsReleased cls)

/-- Release undelivered records of expendable classes, in ascending sequence order, until the headroom reaches the target
or none remains; a record in transfer stays. -/
def State.releaseExpendable (s : State) (target : Nat) : List (Nat × Record) → State
  | [] => s
  | (k, r) :: t =>
    if target ≤ s.headroom then s
    else if r.flags.getLsbD 8 && !r.inTransfer then
      State.releaseExpendable ((s.countRelease r.trig.cls r.closing).freeRecord k) target t
    else State.releaseExpendable s target t

end Sys2Proof.Machine
end

