-- ==== Sys2Proof/Machine/Records.lean ====
section
/-! DEFINITION. Contexts, chains and the close of records (R164 to R169, R176 to R180). -/

namespace Sys2Proof.Machine

/-- The end of the open piece of a context (R167). -/
def Context.pieceEnd (c : Context) : Tw :=
  let cut := sliceStart (sliceAdd (sliceOf c.wstart) 1024)
  if before cut c.wend then cut else c.wend

/-- The last slice that the open piece covers. -/
def Context.lastSlice (c : Context) : Nat := sliceOf (c.pieceEnd - 1)

/-- The number of slices that the open piece covers; none where a STANDSTILL commit left nothing of it (R169). -/
def Context.covered (c : Context) : Nat :=
  if before c.wstart c.pieceEnd then (sliceDiff c.lastSlice (sliceOf c.wstart)).toNat + 1 else 0

/-- A further cut follows the open piece. -/
def Context.continues (c : Context) : Bool := before c.pieceEnd c.wend

/-- The piece closes when the later of its last covered slice and its binding slice is indexed (R176). -/
def Context.closable (c : Context) (n : Nat) : Bool := sliceLe c.lastSlice n && sliceLe c.binding n

/-- The straggler count of a slice: the on-die counter until it is final, then the index entry (R135). -/
def State.stragglersOf (s : State) (n : Nat) : Nat :=
  if sliceLt n s.hist.nextFinal then ((s.indexed n).map (·.stragglers)).getD 0 else Tab.get 0 s.hist.stragglers n

/-- The marker flags 47:44 of a covered slice, as bits 3:0: DROPPED, POISON, STRAGGLERS, DEGRADED (R181). -/
def State.markOf (s : State) (n : Nat) : BitVec 4 :=
  let e := s.indexed n
  let f := fun (p : IndexEntry → Bool) => (e.map p).getD false
  BitVec.ofNat 4 (8 * bnat (f (·.dropped)) + 4 * bnat (f (·.poison)) + 2 * bnat (decide (0 < s.stragglersOf n)) +
    bnat (f (·.degraded)))

/-- The header flags of a piece (R180). -/
def Context.flags (c : Context) (marks : List (BitVec 4)) (expendable : Bool) : BitVec 16 :=
  let any := fun i => marks.any (fun m => m.getLsbD i)
  BitVec.ofNat 16 (bnat c.continues + 2 * bnat (decide (0 < c.cont)) + 4 * bnat (c.trimmed && decide (c.cont = 0)) +
    8 * bnat (c.stopped && !c.continues) + 16 * bnat (any 3) + 32 * bnat (any 2) + 64 * bnat (any 1) +
    128 * bnat (any 0) + 256 * bnat expendable)

/-- A class engine. -/
def State.cls (s : State) (k : Nat) : ClassRec := Tab.get ClassRec.empty s.trig.classes k

def State.setCls (s : State) (k : Nat) (c : ClassRec) : State :=
  { s with trig := { s.trig with classes := Tab.set ClassRec.empty s.trig.classes k c } }

/-- Take the next class record number (R166). -/
def State.takeNumber (s : State) (k : Nat) : BitVec 32 × State :=
  let c := s.cls k
  (c.next, s.setCls k { c with next := c.next + 1 })

/-- The lowest key that a rising table does not hold, from `i` up. -/
def lowestFree {α : Type} (i : Nat) : Tab α → Nat
  | [] => i
  | (k, _) :: t => if k = i then lowestFree (i + 1) t else i

def State.context (s : State) (x : Nat) : Option Context := Tab.look s.trig.contexts x

def State.setContext (s : State) (x : Nat) (c : Context) : State :=
  { s with trig := { s.trig with contexts := Tab.put s.trig.contexts x c } }

/-- A context opens in the lowest free entry; ContextHighWater follows (R168, R186). -/
def State.addContext (s : State) (c : Context) : State :=
  let s := s.setContext (lowestFree 0 s.trig.contexts) c
  { s with trig := { s.trig with highWater := max s.trig.highWater s.trig.contexts.length } }

/-- The header flags of an open context as known at the latest slice close (R265): the facts of its covered slices come
from those already indexed. -/
def State.contextFlags (s : State) (c : Context) : BitVec 16 :=
  let slices := (List.range c.covered).map (fun i => sliceAdd (sliceOf c.wstart) i)
  let last := (s.hist.nextClose + sliceMod - 1) % sliceMod
  c.flags (slices.map s.markOf) (decide (s.confAt last (cClsExpendable c.cls) = 1))

/-- The bytes 1 to 63 of the entry of a context (R265). -/
def State.contextBytes (s : State) (c : Context) : List Byte :=
  leBytes 1 c.cls ++ leBytes 2 c.cont ++ leBytes 4 c.number.toNat ++ leBytes 8 c.wstart.toNat ++
    leBytes 8 c.pieceEnd.toNat ++ leBytes 6 c.binding ++ leBytes 2 (s.contextFlags c).toNat ++
    leBytes 8 (c.pin % s.logWords) ++ leBytes 24 0

/-- A context is free again: its entry keeps what it held (R43, R265). -/
def State.dropContext (s : State) (x : Nat) : State :=
  match s.context x with
  | none => s
  | some c => { s with trig := { s.trig with
      freed := Tab.put s.trig.freed x (s.contextBytes c), contexts := Tab.drop s.trig.contexts x } }

/-- The window of a context and of its class's latest window end at `e`. -/
def State.endAt (s : State) (x : Nat) (c : Context) (e : Tw) : State :=
  let k := s.cls c.cls
  let s := s.setContext x { c with wend := e }
  match k.latest with
  | some l => if l.ctx = some x then s.setCls c.cls { k with latest := some { l with le := e } } else s
  | none => s

/-- No window of the run extends past the start of the STANDSTILL commit slice (R169). -/
def State.clip (s : State) (x : Nat) : State :=
  match s.context x, s.hist.runStop with
  | some c, some stop =>
    if before (sliceStart stop) c.wend then s.endAt x { c with stopped := true } (sliceStart stop) else s
  | _, _ => s

/-- The record of the open piece of a context, closed in slice `n` (R176 to R180). -/
def State.recordOf (s : State) (c : Context) (n : Nat) : Record :=
  let first := sliceOf c.wstart
  let slices := (List.range c.covered).map (fun i => sliceAdd first i)
  let marks := slices.map s.markOf
  let words := match s.entryOf c.lastSlice with
    | some e => if c.covered = 0 then 0 else e.first + e.words - s.firstWord first
    | none => 0
  { seq := s.trig.recordSeq, wstart := c.wstart, wend := c.pieceEnd, trig := c.trig,
    flags := c.flags marks (decide (s.confAt n (cClsExpendable c.cls) = 1)), covered := c.covered,
    count := c.count, number := c.number, cont := c.cont, binding := c.binding, epoch := c.epoch,
    stragglers := (slices.map s.stragglersOf).sum, marks := marks, words := words,
    pin := if c.hollow then none else some c.pin, queue := 0, firstQueue := 0, closing := n, closedAt := s.now,
    overflowed := false, replay := false, hollow := c.hollow, inTransfer := false, reads := [], readC := 0#64 }

/-- A snapshot reports a record as completed, released or counted (R330, R335). -/
def Snapshot.reports (p : Snapshot) (seq : BitVec 64) : Bool :=
  decide ((seq - p.through).toInt ≤ 0) || p.done.contains seq.toNat

/-- A record that closes in slice `n` is done already: the last committed snapshot of the partner reports it (R330), on a unit
that follows, and for slices before a takeover (R338). -/
def State.doneBefore (s : State) (n : Nat) (seq : BitVec 64) : Bool :=
  (s.twin.following || (decide (s.sys.role = .mainmast) && s.twin.takeoverC.isSome &&
    sliceLt n (s.count kLastTakeoverSlice))) &&
    (match s.twin.snapshot with | some p => p.reports seq | none => false)

/-- One TOO_OLD of a class against its binding slice (R35, R185). -/
def State.loseOld (s : State) (binding cls : Nat) : State :=
  (s.lose .tooOld 1 binding (0x0200 + cls)).bump (kClsTooOld cls)

/-- A closed record is dealt (R252); then on a mainmast a hollow one is counted as TOO_OLD (R338), and on a unit that decides
one of an expendable class is released at once under first reef (R151, R330); one that is done already is not held (R330). -/
def State.dispose (s : State) (n : Nat) (first : Option Nat) (r : Record) : Option Nat × State :=
  let level := ((s.indexed n).map (·.level)).getD 0
  let g := s.confAt n (cClsQueueGroup r.trig.cls)
  let d := s.deal n g r.trig.cls first
  if r.hollow && decide (s.sys.role = .mainmast) then (d.1, d.2.loseOld r.binding r.trig.cls)
  else if r.flags.getLsbD 8 && decide (1 ≤ level) && s.decides then (d.1, d.2.countRelease r.trig.cls n)
  else if s.doneBefore n r.seq then d
  else s.dealRecord n g first r

/-- Close the open piece of context `x` in slice `n`; a chain goes on in the same slot (R167). -/
def State.closePiece (s : State) (x : Nat) (c : Context) (n : Nat) : State :=
  let r := s.recordOf c n
  let s := { s with trig := { s.trig with recordSeq := s.trig.recordSeq + 1 } }
  let s := s.bump64 (kClsRecordsClosed c.cls)
  if c.continues then
    let num := s.takeNumber c.cls
    let k := num.2.cls c.cls
    let s := num.2.setCls c.cls { k with latest := k.latest.map (fun l => if l.ctx = some x then { l with number := num.1 } else l) }
    let d := s.dispose n c.firstQueue r
    let s := d.2
    s.setContext x { c with wstart := c.pieceEnd, cont := c.cont + 1, number := num.1, count := 1,
                            pin := s.firstWord (sliceOf c.pieceEnd), firstQueue := if c.cont = 0 then d.1 else c.firstQueue }
  else
    let k := s.cls c.cls
    let s := s.setCls c.cls { k with latest := k.latest.map (fun l => if l.ctx = some x then { l with ctx := none } else l) }
    let s := s.dropContext x
    (s.dispose n c.firstQueue r).2

/-- Close every piece of context `x` that slice `n` completes, in continuation order (R167). -/
def State.closeChain (s : State) (x n : Nat) : Nat → State
  | 0 => s
  | k + 1 =>
    match s.context x with
    | some c => if c.closable n then State.closeChain (s.closePiece x c n) x n k else s
    | none => s

/-- What takes a record sequence number at an indexing: a context that closes, or a TOO_OLD refusal (R177). -/
inductive Numbered where
  | close (x : Nat) | refused
  deriving DecidableEq, Repr

/-- What closes or is numbered at the indexing of `n`, in the order of R177: binding slice, then R162. -/
def State.numbered (s : State) (n : Nat) : List ((Nat × Nat) × Numbered) :=
  let a := (s.trig.refused.filter (fun r => sliceLe r.1 n)).map (fun r => ((r.1, r.2.1), Numbered.refused))
  let b := (s.trig.contexts.filter (fun e => e.2.closable n)).map (fun e => ((e.2.binding, e.2.rank), Numbered.close e.1))
  (a ++ b).insertionSort (fun p q => sliceLt p.1.1 q.1.1 = true ∨ (p.1.1 = q.1.1 ∧ p.1.2 ≤ q.1.2))

/-- Close the records that slice `n` completes and number the refusals bound up to it (R176, R177). -/
def State.closeRecords (s : State) (n : Nat) : State :=
  let items := s.numbered n
  let s := { s with trig := { s.trig with refused := s.trig.refused.filter (fun r => !sliceLe r.1 n) } }
  items.foldl (fun s i =>
    match i.2 with
    | .refused => { s with trig := { s.trig with recordSeq := s.trig.recordSeq + 1 } }
    | .close x =>
      let fuel := match s.context x with
        | some c => (sliceDiff (sliceOf c.wend) (sliceOf c.wstart)).toNat / 1024 + 2
        | none => 0
      s.closeChain x n fuel) s

end Sys2Proof.Machine
end

