-- ==== Sys2Proof/Machine/Ether.lean ====
section
/-! DEFINITION. Ethernet frames, IPv4, UDP and PTP messages as bytes in network order (R9, R52, R172). The layouts are those
of IEEE 802.3, IEEE 802.1Q, RFC 791, RFC 768, RFC 826 and IEEE 1588-2019, which R52 names (PRESUMED, log entry 10). -/

namespace Sys2Proof.Machine

/-! ### Received frames -/

/-- A received frame from its destination address on: address, VLAN identifier (0 untagged), EtherType, payload (R52). -/
structure EthRx where
  dst : Nat
  vlan : Nat
  kind : Nat
  body : List Byte
  deriving DecidableEq, Repr

/-- The parts of a frame, with one optional IEEE 802.1Q tag (R52). -/
def ethParse (f : List Byte) : EthRx :=
  if beAt f 12 2 = 0x8100 then ⟨beAt f 0 6, beAt f 14 2 % 4096, beAt f 16 2, f.drop 18⟩
  else ⟨beAt f 0 6, 0, beAt f 12 2, f.drop 14⟩

/-- A UDP datagram: the IPv4 destination, the destination port and the payload. -/
structure UdpRx where
  dst : Nat
  port : Nat
  payload : List Byte
  deriving DecidableEq, Repr

/-- The sum of the 16-bit words of a message in network order. -/
def sum16 : List Byte → Nat
  | a :: b :: t => a.toNat * 256 + b.toNat + sum16 t
  | [a] => a.toNat * 256
  | [] => 0

/-- A ones' complement sum that includes its own checksum is right. -/
def sumRight (n : Nat) : Bool := decide (n % 65535 = 0)

/-- The UDP datagram of an IPv4 packet: none for a fragment, for options, for another protocol and for a wrong checksum
(R172). A UDP checksum field of 0 says that none was sent. -/
def udpParse (b : List Byte) : Option UdpRx :=
  let total := beAt b 2 2
  let seg := (b.take total).drop 20
  if beAt b 0 1 ≠ 0x45 ∨ beAt b 6 2 % 0x4000 ≠ 0 ∨ beAt b 9 1 ≠ 17 ∨ b.length < total ∨ !sumRight (sum16 (b.take 20)) then none
  else if seg.length < 8 ∨ beAt seg 4 2 ≠ seg.length then none
  else if beAt seg 6 2 ≠ 0 ∧ !sumRight (sum16 ((b.drop 12).take 8) + 17 + seg.length + sum16 seg) then none
  else some ⟨beAt b 16 4, beAt seg 2 2, seg.drop 8⟩

/-- A frame reaches a port that has link, with the port's VLAN identifier (R52). -/
def State.ethTagged (s : State) (e : EthId) (f : List Byte) : Bool := decide ((ethParse f).vlan = s.conf (cEthVlanId e.val))

/-! ### PTP messages (R52) -/

/-- The multicast addresses of R52: 224.0.1.129 and 224.0.0.107; 01-1B-19-00-00-00 and 01-80-C2-00-00-0E. -/
def ptpGroupIp (a : Nat) : Bool := [0xE0000181, 0xE000006B].contains a
def ptpGroupMac (a : Nat) : Bool := [0x011B19000000, 0x0180C200000E].contains a

/-- messageType, the low half of byte 0. -/
def ptpType (m : List Byte) : Nat := beAt m 0 1 % 16

/-- The PTP message of a frame under the transport of the port: UDP over IPv4 on port 319 for event messages and 320 for
the others, or IEEE 802.3 (R52). -/
def ptpPayload (onEthernet : Bool) (f : List Byte) : Option (List Byte) :=
  let r := ethParse f
  if onEthernet then (if r.kind = 0x88F7 ∧ ptpGroupMac r.dst then some r.body else none)
  else if r.kind ≠ 0x0800 then none
  else (udpParse r.body).bind (fun u =>
    if ptpGroupIp u.dst && decide (u.port = if ptpType u.payload < 8 then 319 else 320) then some u.payload else none)

/-- A header that the instance takes: PTP version 2, majorSdoId 0, its domain, and one of the message types (R52). -/
def ptpHeaderOk (domain : Nat) (types : List Nat) (m : List Byte) : Bool :=
  decide (34 ≤ m.length) && decide (beAt m 2 2 ≤ m.length) && decide (beAt m 1 1 % 16 = 2) && decide (beAt m 0 1 / 16 = 0) &&
    decide (beAt m 4 1 = domain) && types.contains (ptpType m)

/-- The PTP message of one of the types that the instance of port `e` takes from a frame (R52). -/
def State.ptpMessage (s : State) (e : EthId) (types : List Nat) (f : List Byte) : Option (List Byte) :=
  if s.conf (cEthPtpEnable e.val) = 1 ∧ s.ethTagged e f then
    (ptpPayload (decide (s.conf (cEthTransport e.val) = 1)) f).bind (fun m =>
      if ptpHeaderOk (s.conf (cEthDomain e.val)) types m then some (m.take (beAt m 2 2)) else none)
  else none

/-- twoStepFlag, sequenceId, correctionField (units of 2^-16 ns) and logMessageInterval of a header. -/
def ptpTwoStep (m : List Byte) : Bool := bit (beAt m 6 1) 1
def ptpSeq (m : List Byte) : BitVec 16 := BitVec.ofNat 16 (beAt m 30 2)
def ptpCorr (m : List Byte) : Int := signed 64 (beAt m 8 8)
def ptpLogInterval (m : List Byte) : Int := signed 8 (beAt m 33 1)

/-- A timestamp field: 48 bits of seconds, 32 bits of nanoseconds. -/
def ptpTimeAt (m : List Byte) (off : Nat) : PtpTime := ⟨beAt m off 6, beAt m (off + 6) 4⟩

/-- The message rates that the device accepts: Sync −7 to +1, the minimum delay request interval −7 to +5 (R52). -/
def ptpRateOk (m : List Byte) : Bool :=
  let k := ptpLogInterval m
  match ptpType m with
  | 0 => decide (-7 ≤ k ∧ k ≤ 1)
  | 9 => decide (-7 ≤ k ∧ k ≤ 5)
  | _ => true

/-- An interval of 2^k s in fu. -/
def intervalFu (k : Int) : Nat := if 0 ≤ k then usFu 1000000 * 2 ^ k.toNat else usFu 1000000 / 2 ^ (-k).toNat

/-! ### Messages sent -/

/-- The `n` bytes of a number in network order (R9). -/
def beBytes (n v : Nat) : List Byte := (leBytes n v).reverse

/-- A PTP header: type, length, domain, flags, correctionField, sequenceId, controlField, logMessageInterval 0x7F; the
source is port 1 of the instance's own clock identity (log entry 7). -/
def ptpHead (e type len domain flags : Nat) (corr : Int) (seq : BitVec 16) (ctl : Nat) : List Byte :=
  beBytes 1 type ++ beBytes 1 0x12 ++ beBytes 2 len ++ beBytes 1 domain ++ beBytes 1 0 ++ beBytes 2 flags ++
    beBytes 8 (BitVec.ofInt 64 corr).toNat ++ beBytes 4 0 ++ beBytes 8 (Config.clockIdentity e).toNat ++ beBytes 2 1 ++
    beBytes 2 seq.toNat ++ beBytes 1 ctl ++ beBytes 1 0x7F

/-- The bytes of a PTP time. -/
def ptpTimeBytes (t : PtpTime) : List Byte := beBytes 6 t.sec ++ beBytes 4 t.ns

/-- Send a PTP message under the transport and tag of the port, to the peer group or to the other one (R52). -/
def State.ptpSend (s : State) (e : EthId) (peer : Bool) (m : List Byte) : State :=
  s.emit (.ptp e.val (decide (s.conf (cEthTransport e.val) = 0)) (s.conf (cEthVlanId e.val)) peer m)

/-- Delay_Req, Pdelay_Req, Pdelay_Resp and Pdelay_Resp_Follow_Up as the device sends them (R52, R54). -/
def State.delayReqMsg (s : State) (e : EthId) (seq : BitVec 16) : List Byte :=
  ptpHead e.val 1 44 (s.conf (cEthDomain e.val)) 0 0 seq 1 ++ List.replicate 10 0#8
def State.pdelayReqMsg (s : State) (e : EthId) (seq : BitVec 16) : List Byte :=
  ptpHead e.val 2 54 (s.conf (cEthDomain e.val)) 0 0 seq 5 ++ List.replicate 20 0#8
def State.pdelayRespMsg (s : State) (e : EthId) (seq : BitVec 16) (requester : List Byte) (twoStep : Bool) (receipt : PtpTime)
    (corr : Int) : List Byte :=
  ptpHead e.val 3 54 (s.conf (cEthDomain e.val)) (if twoStep then 0x0200 else 0) corr seq 5 ++ ptpTimeBytes receipt ++ requester
def State.pdelayFollowUpMsg (s : State) (e : EthId) (seq : BitVec 16) (requester : List Byte) (origin : PtpTime) (corr : Int) :
    List Byte :=
  ptpHead e.val 10 54 (s.conf (cEthDomain e.val)) 0 corr seq 5 ++ ptpTimeBytes origin ++ requester

/-- The ARP request of a frame for an IPv4 address: the asker's hardware and protocol addresses, and the address asked. -/
def arpParse (b : List Byte) : Option (List Byte × Nat) :=
  if beAt b 0 2 = 1 ∧ beAt b 2 2 = 0x0800 ∧ beAt b 4 1 = 6 ∧ beAt b 5 1 = 4 ∧ beAt b 6 2 = 1 then
    some ((b.drop 8).take 10, beAt b 24 4)
  else none

/-- The ARP reply: the port's own addresses first, then the asker's. -/
def arpReplyMsg (e own : Nat) (asker : List Byte) : List Byte :=
  beBytes 2 1 ++ beBytes 2 0x0800 ++ beBytes 1 6 ++ beBytes 1 4 ++ beBytes 2 2 ++ beBytes 6 (Config.mac e).toNat ++
    beBytes 4 own ++ asker

end Sys2Proof.Machine
end

