-- ==== Sys2Proof/Machine/Pulse.lean ====
section
/-! DEFINITION. Pulse generators (R63 to R69): arming, the pulses of a schedule, and the re-evaluation after a step. -/

namespace Sys2Proof.Machine

/-- 2 µs in fu (R64). -/
def pulseLead : Nat := 2048000

/-- The outcome of an Arm of staged fields received at `tr` (R64): Mode 0 disarms and is always accepted (R66). -/
def armOutcome (f : PulseFields) (tr : Tw) : ArmOutcome :=
  if f.mode = 0#8 then .accepted
  else if twDiff f.start tr < pulseLead then .late
  else if (2 : Int) ^ 62 < twDiff f.start tr then .tooFar
  else .accepted

/-- The time of pulse `k`: Start + k * Period, computed exactly (R65). -/
def pulseTime (f : PulseFields) (k : Nat) : Tw := f.start + BitVec.ofNat 64 (k * f.period.toNat)

/-- Pulse `k` belongs to the schedule: pulse 0 in Mode 1, Count pulses or no end in Mode 2 (R65). -/
def pulseExists (f : PulseFields) (k : Nat) : Bool :=
  if f.mode = 1#8 then decide (k = 0) else f.count == 0#32 || decide (k < f.count.toNat)

/-- The time of the next pulse of a schedule that still fires; an old schedule fires only before its cut (R66). -/
def Schedule.nextTime (c : Schedule) : Option Tw :=
  if pulseExists c.fields c.next then
    let t := pulseTime c.fields c.next
    match c.cut with
    | none => some t
    | some cut => if before t cut then some t else none
  else none

/-- The schedules of a generator, the oldest first. -/
def PulseGen.schedules (g : PulseGen) : List Schedule := g.old ++ g.current.toList

/-- The earliest pulse still to fire, of any schedule (R65); of equal times the older schedule goes first. -/
def PulseGen.nextTime (g : PulseGen) : Option Tw :=
  (g.schedules.filterMap Schedule.nextTime).foldl (fun m t =>
    match m with
    | none => some t
    | some u => if before t u then some t else some u) none

/-- The generator after an Arm (R64, R66): a refused arm leaves the schedules as they are. -/
def PulseGen.arm (g : PulseGen) (f : PulseFields) (tr : Tw) (o : ArmOutcome) : PulseGen :=
  let cut := tr + BitVec.ofNat 64 pulseLead
  let retired := (g.schedules.map (fun c =>
    { c with cut := some (match c.cut with | none => cut | some u => if before u cut then u else cut) })).filter
      (fun c => c.nextTime.isSome)
  match o with
  | .late => { g with state := .late }
  | .tooFar => { g with state := .tooFar }
  | .accepted =>
    if f.mode = 0#8 then { g with state := .idle, current := none, old := retired, activeLow := f.activeLow }
    else { g with state := .armed, current := some ⟨f, 0, none⟩, old := retired, activeLow := f.activeLow }

/-- The staged fields of a generator as its objects hold them (R63). -/
def State.stagedPulse (s : State) (n : Nat) : PulseFields :=
  ⟨BitVec.ofNat 8 (s.imm (cPgMode n)), BitVec.ofNat 64 (s.imm (cPgStart n)), BitVec.ofNat 64 (s.imm (cPgPeriod n)),
    BitVec.ofNat 32 (s.imm (cPgWidth n)), BitVec.ofNat 32 (s.imm (cPgCount n)), BitVec.ofNat 8 (s.imm (cPgRoutes n)),
    BitVec.ofNat 8 (s.imm (cPgTriggerClass n)), decide (s.imm (cPgPolarity n) = 1)⟩

/-- The state of R72 of a refused arm, 4 LATE or 5 TOO_FAR. -/
def armState : ArmOutcome → Nat
  | .accepted => 0 | .late => 4 | .tooFar => 5

/-- An Arm of generator `n`: a refusal is journalled (R64, R291 code 0x0103). -/
def State.armGen (s : State) (n : Nat) (f : PulseFields) (tr : Tw) (o : ArmOutcome) : State :=
  let s := s.setGen n ((s.gen n).arm f tr o)
  if o = .accepted then s else s.journal 0x0103 srcDevice (jdata [(0, n), (1, armState o)])

/-- The pulse that a periodic schedule goes on with after a step: the first k whose time lies at least 2 µs ahead; after a
step backward it may be a pulse that has fired before the step (R69; DEDUCED, log entry 47). -/
def Schedule.resumeAt (c : Schedule) (now : Tw) : Nat :=
  let d := twDiff (now + BitVec.ofNat 64 pulseLead) (pulseTime c.fields c.next)
  ((c.next : Int) + (d + (c.fields.period.toNat : Int) - 1) / (c.fields.period.toNat : Int)).toNat

/-- The pulses of a schedule that are still to fire: those of its Count, before its cut (R65, R66). -/
def Schedule.left (c : Schedule) : Option Nat :=
  let byCount := if c.fields.count = 0#32 then none else some (c.fields.count.toNat - c.next)
  let byCut := c.cut.map (fun u =>
    ((twDiff u (pulseTime c.fields c.next) + (c.fields.period.toNat : Int) - 1) / (c.fields.period.toNat : Int)).toNat)
  match byCount, byCut with
  | some a, some b => some (min a b)
  | some a, none => some a
  | none, b => b

/-- The re-evaluation of one schedule after a step (R69): none when it fires nothing more; the pulses passed over, of those
that were still to fire. -/
def Schedule.afterStep (c : Schedule) (now : Tw) : Option Schedule × Nat :=
  if c.nextTime.isNone then (none, 0)
  else if c.fields.mode = 1#8 then
    (if twDiff (pulseTime c.fields c.next) now < pulseLead then none else some c, 0)
  else
    let k := c.resumeAt now
    let c' := { c with next := k }
    (if c'.nextTime.isSome then some c' else none, match c.left with | some n => min (k - c.next) n | none => k - c.next)

/-- The generator's State after a step: LATE where its one pulse is too near, DONE where the step passed over the last pulse
of the accepted schedule (R65, R69; the latter DESIGN CHOICE, log entry 47). -/
def PulseGen.stateStepped (g : PulseGen) (now : Tw) : PulseState :=
  match g.current with
  | some c =>
    if c.nextTime.isNone ∨ (c.afterStep now).1.isSome then g.state
    else if c.fields.mode = 1#8 then .late else if g.state = .armed ∨ g.state = .running then .done else g.state
  | none => g.state

/-- The re-evaluation of generator `n` against the new TW (R69). A pulse under way ends at its old TW (DESIGN CHOICE, log
entry 47). -/
def State.pulseStep (s : State) (n : Nat) : State :=
  let g := s.gen n
  let old := g.old.map (·.afterStep s.now)
  let cur := g.current.map (·.afterStep s.now)
  let skipped := ((cur.toList ++ old).map Prod.snd).sum
  (s.setGen n { g with current := cur.bind Prod.fst, old := old.filterMap Prod.fst, state := g.stateStepped s.now }).bump
    (kPlsSkipped n) skipped

/-- Every generator after a step. -/
def State.pulsesStep (s : State) : State := (List.range 16).foldl State.pulseStep s

/-- A pulse's edge at the pin: the nearest multiple of 128 fu, ties to the even multiple (R68). -/
def pinTime (t : Tw) : Tw := BitVec.ofInt 64 (roundEven t.toNat 128 * 128)

/-- A pulse is due: its time lies before the end of the present tick. -/
def State.due (s : State) (t : Tw) : Bool := before t (s.nowAt tickFu)

end Sys2Proof.Machine
end

