-- ==== Sys2Proof/Machine/Light.lean ====
section
/-! DEFINITION. The calibration light drive (15_light_drive.md, R390 to R404); voltages in mV. -/

namespace Sys2Proof.Machine

/-- PD45 is powered (R390). -/
def State.lightPower (s : State) : Bool :=
  (decide (s.conf cLightBoostEnable = 1) || decide (s.conf cLampEnable = 1)) &&
    (decide (s.sys.dev = .standstill) || decide (s.sys.dev = .run) || decide (s.sys.dev = .fenced))

def State.setLight (s : State) (l : Light) : State := { s with light := l }

/-! ### Sinks (R394 to R396) -/

/-- The 2-bit fault field of sink `k` (R395). -/
def Light.fault (l : Light) (k : Nat) : Nat := field l.faults.toNat (2 * k + 1) (2 * k)

/-- The sinks' fault fields with one changed. -/
def Light.setFault (l : Light) (k v : Nat) : Light :=
  { l with faults := (l.faults &&& ~~~(3#24 <<< (2 * k))) ||| (BitVec.ofNat 24 v <<< (2 * k)) }

/-- The sink may be driven: PD45 is powered, it is enabled, and no fault is latched (R391, R395). -/
def State.sinkOk (s : State) (k : Nat) : Bool :=
  s.lightPower && decide (s.conf (cSinkEnable k) = 1) && decide (s.light.fault k = 0)

/-- Reverse the order of 12 bits (R396). -/
def bitreverse12 (j : Nat) : Nat := ((List.range 12).map (fun i => bnat (bit j i) * 2 ^ (11 - i))).sum

/-- Slot `i` of a dimming period is lit for sink `k` at brightness `dim` (R396). -/
def slotLitAt (i k dim : Nat) : Bool := decide (bitreverse12 ((i + 256 * k) % 4096) < dim)

/-- The slot of a time in its dimming period: 256 ns each, 4,096 a period (R396). -/
def slotOf (t : Tw) : Nat := t.toNat / 262144 % 4096

/-- The voltage samples of driven sinks: the smallest of each is kept, and a flash gives the string's voltage (R391,
R392). -/
def State.sampleSink (s : State) (k v : Nat) : State :=
  let l := s.light
  let lit := l.slotLit.getLsbD k
  let fl := l.flashing.contains k || l.flashed.contains k
  if !s.sinkOk k || !(lit || fl) then s
  else
    let l := { l with samples := Tab.put l.samples k (min v ((Tab.look l.samples k).getD v)) }
    s.setLight (if fl then { l with flashVolts := Tab.put l.flashVolts k (l.ledOut - v) } else l)

/-- DIM_SLOT: a slot ends with the voltages across the driven sinks, and the next one begins (R391, R396). -/
def execDimSlot (dt : Nat) (volts : List (SinkId × Nat)) (s : State) : Host.Outcome State Fault Refusal :=
  let s := s.elapse dt
  .next <|
    if !s.lightPower then s
    else
      let s := volts.foldl (fun (s : State) v => s.sampleSink v.1.val v.2) s
      let lit := (List.range 12).foldl (fun (m : BitVec 12) k =>
        if slotLitAt (slotOf s.now) k (s.conf (cSinkDim k)) && s.sinkOk k then m ||| (1#12 <<< k) else m) 0#12
      s.setLight { s.light with slotLit := lit, flashed := [] }

/-! ### Boost stage (R391 to R393) -/

/-- LED_OUT while the switch stands: VLED_IN less one diode drop (R391). -/
def ledRest : Nat := Config.vledIn - Config.diodeDrop

/-- What the flash sources need: 48 V until a sink has flashed, then its string voltage plus Headroom (R392). -/
def State.flashNeeds (s : State) : List Nat :=
  ((List.range 12).filter (fun k => s.sinkOk k && decide (s.conf (cSinkFlashSource k) ≤ 15))).map (fun k =>
    match Tab.look s.light.flashVolts k with
    | none => 48000
    | some v => v + s.conf cLightHeadroom)

/-- The target that the samples and the flash sources ask for, before its limits (R391, R392); none when nothing is
driven and no sink waits for a flash. -/
def State.boostWant (s : State) : Option Nat :=
  let need := s.flashNeeds
  let mins := s.light.samples.map Prod.snd
  let fromSamples := match mins with
    | [] => none
    | v :: vs => some (s.light.ledOut + s.conf cLightHeadroom - vs.foldl min v)
  match fromSamples, need with
  | none, [] => none
  | none, n => some (n.foldl max 0)
  | some w, n => some (n.foldl max w)

/-- BOOST_UPDATE: the regulator moves LED_OUT every 100 µs, at most 2 V up and 0.5 V down (R391). -/
def execBoostUpdate (dt : Nat) (s : State) : Host.Outcome State Fault Refusal :=
  let s := s.elapse dt
  .next <|
    if !s.lightPower then s
    else
      let l := s.light
      match (if s.conf cLightBoostEnable = 1 ∧ s.sys.vled = true then s.boostWant else none) with
      | none => (s.setLight { l with samples := [], ledOut := ledRest }).setStat kLightBoostAtMax 0
      | some w =>
        let t := min 48000 (max w (Config.vledIn + 300))
        let out := if l.ovp then l.ledOut
          else if l.ledOut < t then min t (l.ledOut + 2000) else max t (l.ledOut - 500)
        (s.setLight { l with samples := [], ledOut := out }).setStat kLightBoostAtMax (bnat (decide (48000 ≤ w)))

/-- BOOST_OVP: the comparator stops the switch above 50 V and restarts it below 48.5 V (R393, R402). -/
def execBoostOvp (dt : Nat) (mv : Nat) (s : State) : Host.Outcome State Fault Refusal :=
  let s := s.elapse dt
  .next <|
    if !s.lightPower then s
    else if !s.light.ovp && decide (50000 < mv) then
      ((s.setLight { s.light with ovp := true, ledOut := mv }).bump kLightOvervoltage).journal 0x0B02 srcDevice
        (jdata [(4, mv)])
    else if s.light.ovp && decide (mv < 48500) then s.setLight { s.light with ovp := false, ledOut := mv }
    else s

/-! ### Sink faults (R395) -/

/-- The field value of a fault (R395). -/
def SinkCause.num : SinkCause → Nat
  | .open => 1 | .short => 2 | .dissipation => 3

/-- The current of a sink, in µA (R394). -/
def State.sinkCurrent (s : State) (k : Nat) : Nat :=
  if s.light.flashing.contains k then s.conf (cSinkFlashCurrent k) else s.conf (cSinkDimCurrent k)

/-- The condition of a fault holds at a sink voltage (R395); its duration is the command's. -/
def State.sinkCondition (s : State) (k : Nat) (c : SinkCause) (mv : Nat) : Bool :=
  if c = .open then decide (mv < 100) && decide (s.count kLightBoostAtMax = 1)
  else if c = .short then decide (s.light.ledOut < mv + s.conf cLightShortLimit)
  else decide (400000000 < mv * s.sinkCurrent k)

/-- SINK_FAULT: a fault is latched and turns the sink off (R395, R402). -/
def execSinkFault (dt : Nat) (src : SinkId) (cause : SinkCause) (mv : Nat) (s : State) :
    Host.Outcome State Fault Refusal :=
  let s := s.elapse dt
  let k := src.val
  .next <|
    if !s.sinkOk k || !s.sinkCondition k cause mv then s
    else
      let l := (s.light.setFault k (SinkCause.num cause))
      let s := s.setLight { l with flashing := l.flashing.filter (· ≠ k), slotLit := l.slotLit &&& ~~~(1#12 <<< k),
                                   samples := Tab.drop l.samples k }
      (s.bump kLightFaultEvents).journal 0x0B01 k (jdata [(0, SinkCause.num cause), (4, mv)])

/-- LOW_HEADROOM: the condition appears while BoostAtMax is 1, or has been absent for 10 ms (R395). -/
def execLowHeadroom (dt : Nat) (src : SinkId) (low : Bool) (s : State) : Host.Outcome State Fault Refusal :=
  let s := s.elapse dt
  let k := src.val
  let m := s.count kLightLowHeadroom
  .next <|
    if low then
      (if s.sinkOk k && decide (s.count kLightBoostAtMax = 1) && !bit m k then s.setStat kLightLowHeadroom (m + 2 ^ k) else s)
    else if bit m k then s.setStat kLightLowHeadroom (m - 2 ^ k) else s

/-- A write of ClearFaults (R395). -/
def State.clearFaults (s : State) : State := s.setLight { s.light with faults := 0#24 }

/-! ### Flashes (R397) -/

/-- The sinks whose flash source is generator `n`. -/
def State.flashSinks (s : State) (n : Nat) : List Nat :=
  (List.range 12).filter (fun k => decide (s.conf (cSinkFlashSource k) = n))

/-- A pulse of generator `n` at `t` with Routes bit 3 flashes its sinks (R395, R397). -/
def State.flashStart (s : State) (n : Nat) (t : Tw) : State :=
  if !s.lightPower then s
  else (s.flashSinks n).foldl (fun (s : State) k =>
    if !s.sinkOk k then s.bump kLightFlashesMissed
    else if s.light.flashing.contains k then s
    else (s.setLight { s.light with flashing := s.light.flashing ++ [k] }).emit (.flash k true (pinTime t))) s

/-- The last of the overlapping pulses of generator `n` ends at `t` (R397). -/
def State.flashEnd (s : State) (n : Nat) (t : Tw) : State :=
  (s.flashSinks n).foldl (fun (s : State) k =>
    if s.light.flashing.contains k then
      ((s.setLight { s.light with flashing := s.light.flashing.filter (· ≠ k), flashed := s.light.flashed ++ [k] }).bump64
        kLightFlashesDone).emit (.flash k false (pinTime t))
    else s) s

/-! ### Lamp bus (R398 to R401) -/

/-- A 40-bit command frame from its bits 39:8 (R399). -/
def lampFrame (v : BitVec 32) : BitVec 40 := BitVec.ofNat 40 (v.toNat * 256 + (crc8 (bitsMsb 32 v.toNat)).toNat)

/-- A bit period in fu (R398): 100 kbit/s or 1 Mbit/s. -/
def State.lampBit (s : State) : Nat := if s.conf cLampRate = 0 then 10240000 else 1024000

/-- The address of a command (R399). -/
def lampAddr (v : BitVec 32) : Nat := field v.toNat 31 26

/-- The bus is driven: LampEnable is 1 and PD45 is powered. -/
def State.lampOn (s : State) : Bool := s.lightPower && decide (s.conf cLampEnable = 1)

/-- The bit periods that a host transaction may take, with its retries and the idle gaps (R398, R400, R401). -/
def State.lampBits (s : State) (v : BitVec 32) : Nat :=
  if lampAddr v = 63 then 41 + 4 else (75 + 4) * (s.conf cLampRetries + 1)

/-- Start the waiting host transaction when the bus is free and it ends before the next FLASH frame begins (R401). -/
def State.lampTry (s : State) : State :=
  match s.light.lamp with
  | some c =>
    let stop := s.now + BitVec.ofNat 64 (s.lampBits c.frame * s.lampBit)
    let clear := match s.light.flashAt with | some f => notAfter stop f.2 | none => true
    if c.sent || !s.lampOn || s.light.flashOnBus || !clear then s
    else (s.setLight { s.light with lamp := some { c with sent := true, attempts := 1 } }).emit
      (.lampFrame (lampFrame c.frame) s.now)
  | none => s

/-- What a write of LampCommand answers (R400). -/
inductive LampAnswer where
  | ok | full | invalid
  deriving DecidableEq, Repr

/-- A write of LampCommand: bits 39:8 of the frame (R400). -/
def State.lampCommand (s : State) (v : Nat) : LampAnswer × State :=
  let f := BitVec.ofNat 32 (v / 256)
  if 2 ≤ field f.toNat 25 24 ∨ lampAddr f = 0 then (.invalid, s)
  else if s.light.lamp.isSome then (.full, s)
  else
    (.ok, (s.setLight { s.light with lamp := some ⟨f, 0, false⟩, lampNo := s.light.lampNo + 1 }).lampTry)

/-- The command ends with an outcome (R400). -/
def State.lampDone (s : State) (attempts outcome : Nat) (response : BitVec 32) : State :=
  let r := s.light.lampNo.toNat * 2 ^ 48 + outcome * 2 ^ 40 + attempts * 2 ^ 32 + response.toNat
  (s.setLight { s.light with lamp := none }).setStat kLightLampResult r

/-- A response is taken: not all ones, its CRC holds and its address is the command's (R400). -/
def lampGood (cmd r : BitVec 32) : Bool :=
  decide (r ≠ 0xFFFFFFFF#32) && decide ((crc8 (bitsMsb 24 (r.toNat / 256))).toNat = r.toNat % 256) &&
    decide (field r.toNat 31 26 = lampAddr cmd)

/-- LAMP_RESPONSE: the transaction under way has ended; a broadcast has no response (R400). -/
def execLampResponse (dt : Nat) (response : Option (BitVec 32)) (s : State) : Host.Outcome State Fault Refusal :=
  let s := s.elapse dt
  .next <|
    match s.light.lamp with
    | none => s
    | some c =>
      if !c.sent then s
      else if lampAddr c.frame = 63 then s.lampDone c.attempts 2 0#32
      else
        match response.filter (lampGood c.frame) with
        | some r => s.lampDone c.attempts 0 r
        | none =>
          let s := s.bump kLightLampCrcErrors
          if c.attempts ≤ s.conf cLampRetries then
            (s.setLight { s.light with lamp := some { c with attempts := c.attempts + 1 } }).emit
              (.lampFrame (lampFrame c.frame) s.now)
          else (s.bump kLightLampNoResponse).lampDone c.attempts 1 0#32

/-- The next pulse of a generator: its time, its number and the fields of its schedule (R65). -/
def PulseGen.nextPulse (g : PulseGen) : Option (Tw × Nat × PulseFields) :=
  (g.schedules.filterMap (fun c => c.nextTime.map (fun t => (t, c.next, c.fields)))).foldl (fun m p =>
    match m with
    | none => some p
    | some q => if before p.1 q.1 then some p else some q) none

/-- From the begin of a FLASH frame to its last rising edge: 40.5 bit periods (R398, R401). -/
def State.flashSpan (s : State) : Tw := BitVec.ofNat 64 (81 * s.lampBit / 2)

/-- When the FLASH frame of a pulse at `t` begins: 40.5 bit periods before its last rising edge at t - SatDelay (R398,
R401). -/
def State.flashBegin (s : State) (t : Tw) : Tw := t - BitVec.ofNat 64 (s.conf cLampSatDelay) - s.flashSpan

/-- The time of the tick that lies nearest to `t` at the present rate (R44, R45): the tick that the distance gives without the
rate, mended by what still lacks there. -/
def State.nearTick (s : State) (t : Tw) : Tw :=
  let move := fun (c : BitVec 64) =>
    c + BitVec.ofInt 64 (roundEven (twDiff t (s.tb.tw c)) tickFu * tickFu)
  s.tb.tw (move (move s.tb.c))

/-- Schedule the FLASH frame of the next pulse of generator `n`, which was `old` before (R401). -/
def State.lampSchedule (s : State) (n : Nat) (old : Option (Tw × Nat × PulseFields)) : State :=
  let next := (s.gen n).nextPulse
  if !s.lampOn || decide (s.conf cLampFlashSource ≠ n) || next == old then s
  else
    match next with
    | none => (s.setLight { s.light with flashAt := none }).lampTry
    | some (t, k, f) =>
      if !f.routes.getLsbD 3 then s.setLight { s.light with flashAt := none }
      else if twDiff (s.flashBegin t) s.now < 1024000 then
        (s.setLight { s.light with flashAt := none }).bump kLightLampLate
      else s.setLight { s.light with flashAt := some (k, s.flashBegin t) }

/-- LAMP_FLASH_FRAME: the scheduled FLASH frame begins, so that its last rising edge lies on the tick nearest to its time (R399,
R401). -/
def execLampFlashFrame (dt : Nat) (s : State) : Host.Outcome State Fault Refusal :=
  let s := s.elapse dt
  .next <|
    match s.light.flashAt with
    | none => s
    | some (k, t) =>
      if !s.due t || !s.lampOn then s
      else if s.light.flashOnBus then (s.setLight { s.light with flashAt := none }).bump kLightLampLate
      else
        let v := BitVec.ofNat 32 (63 * 2 ^ 26 + 2 * 2 ^ 24 + s.conf cLampFlashSource * 2 ^ 16 + k % 65536)
        (s.setLight { s.light with flashAt := none, flashOnBus := true }).emit
          (.lampFrame (lampFrame v) (s.nearTick (t + s.flashSpan) - s.flashSpan))

/-- LAMP_FLASH_FRAME_END: a FLASH frame has ended; a host transaction that waited may start (R401). -/
def execLampFlashFrameEnd (dt : Nat) (s : State) : Host.Outcome State Fault Refusal :=
  let s := s.elapse dt
  .next (if s.light.flashOnBus then (s.setLight { s.light with flashOnBus := false }).lampTry else s)

/-! ### Power and commits (R390, R392, R395) -/

/-- Everything is off: the device has left STANDSTILL, RUN and FENCED, or both enables are 0 (R390). -/
def State.lightOff (s : State) : State :=
  let s := if s.light.ledOut = 0 then s else s.setStat kLightBoostVoltage s.light.ledOut
  let l := s.light
  s.setLight { l with ledOut := 0, ovp := false, samples := [], flashing := [], slotLit := 0#12,
                      flashAt := none, flashOnBus := false, flashed := [],
                      lamp := l.lamp.map (fun c => { c with sent := false, attempts := 0 }) }

/-- PD45 after a change of the configuration or of the device state: on power-up LED_OUT rests (R390, R391). -/
def State.lightUpdate (s : State) : State :=
  if !s.lightPower then s.lightOff
  else if s.light.ledOut = 0 then s.setLight { s.light with ledOut := ledRest } else s

/-- The light drive at a commit slice, `a` and `b` being the configurations before and after (R392, R395, R401). -/
def State.lightCommit (s : State) (a b : Tab Nat) : State :=
  let get := fun (t : Tab Nat) (o : Obj) => Tab.get o.dflt t o.key
  let s := (List.range 12).foldl (fun (s : State) k =>
    let s := if get a (cSinkEnable k) = 0 ∧ get b (cSinkEnable k) = 1 then s.setLight (s.light.setFault k 0) else s
    if get a (cSinkFlashCurrent k) ≠ get b (cSinkFlashCurrent k) ∨ get a (cSinkFlashSource k) ≠ get b (cSinkFlashSource k)
    then s.setLight { s.light with flashVolts := Tab.drop s.light.flashVolts k } else s) s
  let s := if get a cLampFlashSource ≠ get b cLampFlashSource then s.setLight { s.light with flashAt := none } else s
  s.lightUpdate.lampTry

end Sys2Proof.Machine
end

