-- ==== Sys2Proof/Machine/Timebase.lean ====
section
/-! DEFINITION. The timebase: frequency sources (R50, R51), the PTP instances (R52 to R55), the servo (R56 to R59), steps
(R60, R61), the fold (R46) and the anchor (R49). -/

namespace Sys2Proof.Machine

/-! ### Quotients whose rounding the manual leaves open -/

/-- `num / den` where it is whole; otherwise one of the two integers next to it, which one is free (log entry 6). -/
def freeQuot (n : Nat) (num den : Int) : Int :=
  if num % den = 0 then num / den
  else if Config.quotientUp n then num / den + 1 else num / den

/-- A value and its bound on both sides. -/
def clampInt (lo hi v : Int) : Int := if v < lo then lo else if hi < v then hi else v

/-! ### Frequency sources (R50, R51) -/

/-- The order of an ESMC quality level, 0 the best, by the SSM codes of option I: PRC, SSU-A, SSU-B, EEC1 (R70);
PRESUMED (log entry 10). -/
def qlOrder (code : Nat) : Option Nat :=
  match code with
  | 2 => some 0
  | 4 => some 1
  | 8 => some 2
  | 11 => some 3
  | _ => none

def State.ethPort (s : State) (e : EthId) : EthPort := s.eth.get e

def State.setEth (s : State) (e : EthId) (x : EthPort) : State := { s with eth := s.eth.set e.val x e.isLt }

/-- The SyncE source port (R70). -/
def State.synceSource (s : State) : EthId := if s.conf cSourcePort = 1 then 1 else 0

/-- SyncE is qualified (R50). -/
def State.synceQualified (s : State) : Bool :=
  let p := s.ethPort s.synceSource
  decide (s.conf cSynceEnable = 1) && p.link && s.tb.synceInRange &&
    match p.ql.bind qlOrder with
    | some q => decide (q ≤ s.conf cMinQl)
    | none => false

/-- HOLD_CLK is qualified (R50). -/
def State.holdQualified (s : State) : Bool := decide (s.conf cHoldClkEnable = 1) && s.tb.holdInRange

/-- The quality level that the device sends: QL-DNU (R51). -/
def esmcSent : Nat := 15

/-- Use the first source that is qualified (R50); the tick counter counts on (R51). -/
def State.pickSource (s : State) : State :=
  { s with tb := { s.tb with
    source := if s.synceQualified then .synce else if s.holdQualified then .holdClk else .refclk } }

/-! ### PTP: stamps and conversions (R48, R53, R54) -/

/-- The latencies of R53 by Speed: receive, transmit. -/
def State.ethLatency (s : State) (e : EthId) : Int × Int :=
  if s.conf (cEthSpeed e.val) = 0 then (114688, 98304) else (45875, 32768)

/-- The capture at its resolution of 64 fu (R53). -/
def captureFine (p : Capture) : Int := 64 * (p.sub / 64 : Nat)

/-- The gearbox and block-alignment latency of the frame, which only 10GBASE-R has (R53). -/
def State.gearOf (s : State) (e : EthId) (p : Capture) : Int := if s.conf (cEthSpeed e.val) = 0 then 0 else p.gear

/-- The receive timestamp of a capture (R53): less the gearbox and the receive latency, plus RxLatencyAdj. The latencies
act on the raw count, so that the rate acts on them (DESIGN CHOICE, log entry 46). -/
def State.rxStamp (s : State) (e : EthId) (p : Capture) : Tw :=
  s.tb.tw (s.tb.c + BitVec.ofInt 64 (captureFine p - s.gearOf e p - (s.ethLatency e).1 + s.confInt 32 (cEthRxLatencyAdj e.val)))

/-- The transmit timestamp (R53): plus the gearbox and the transmit latency, plus TxLatencyAdj. -/
def State.txStamp (s : State) (e : EthId) (p : Capture) : Tw :=
  s.tb.tw (s.tb.c + BitVec.ofInt 64 (captureFine p + s.gearOf e p + (s.ethLatency e).2 + s.confInt 32 (cEthTxLatencyAdj e.val)))

/-- A PTP time in fu since the PTP epoch (R48). -/
def ptpFu (t : PtpTime) : Int := ((t.sec : Int) * 1000000000 + t.ns) * 1024

/-- A correctionField, units of 2^-16 ns, in fu: shifted right by 6, to the nearest, ties to even (R54). -/
def corrFu (c : Int) : Int := roundEven c 64

/-- The PTP time of a TW: by the anchor while it is valid, otherwise by R48 modulo 2^64; and the fu within the
nanosecond (R49, R54). -/
def State.toPtp (s : State) (t : Tw) : PtpTime × Nat :=
  let d := if s.tb.anchorValid then twDiff t s.tb.anchorTw else (t.toNat : Int)
  let ns := (if s.tb.anchorValid then (s.tb.anchorSec : Int) * 1000000000 + s.tb.anchorNs else 0) + d / 1024
  (⟨(ns / 1000000000).toNat, (ns % 1000000000).toNat⟩, (d % 1024).toNat)

/-! ### Selection of the steering instance (R55, R58, R59) -/

/-- Two Announce messages within four announce intervals qualify the master (R55). -/
def EthPort.qualifies (p : EthPort) : Bool :=
  match p.master, p.announces with
  | some m, a :: b :: _ => decide ((a - b).toNat ≤ 4 * m.interval)
  | _, _ => false

/-- An instance is eligible (R55). A master once qualified stays so until its port loses link or its Announce messages stop
for AnnounceTimeout intervals. -/
def EthPort.eligible (p : EthPort) : Bool := p.link && p.qual && decide (4 ≤ p.exchanges)

/-- The second master is the better one, and the first is not the better one too: a tie is none (R55). -/
def secondBetter (a b : AnnounceMsg) : Bool := Config.betterMaster b.dataSet a.dataSet && !Config.betterMaster a.dataSet b.dataSet

/-- The other Ethernet port. -/
def otherEth (e : EthId) : EthId := if e = 0 then 1 else 0

/-- The instance that PtpSelect prefers of two that are eligible (R55). -/
def State.preferred (s : State) : EthId :=
  match s.conf cPtpSelect with
  | 0 => 0
  | 1 => 1
  | _ => match (s.ethPort 0).master, (s.ethPort 1).master with
    | some a, some b => if secondBetter a b then 1 else 0
    | _, _ => 0

/-- The instance to steer by when none steers. -/
def State.choice (s : State) : Option EthId :=
  match (s.ethPort 0).eligible, (s.ethPort 1).eligible with
  | true, true => some s.preferred
  | true, false => some 0
  | false, true => some 1
  | false, false => none

/-- Take up the grandmaster of the steering instance; a change is journalled when one was known (R59, R291). -/
def State.noteGrandmaster (s : State) (e : EthId) (change : Bool) : State :=
  match (s.ethPort e).master with
  | none => s
  | some m =>
    let differs := decide (s.count kTimeGrandmasterId ≠ m.grandmaster.toNat)
    let s := (s.setStat kTimeGrandmasterId m.grandmaster.toNat).setStat kTimeUtcOffset m.utcOffset.toNat
    if differs && change then s.journal 0x0102 srcDevice (jdata [(0, m.grandmaster.toNat)]) else s

/-- No sample and no run of folds counted. -/
def Timebase.clearRuns (t : Timebase) : Timebase :=
  { t with accepted := [], refused := 0, refuseRun := 0, lockRun := 0, unlockRun := 0 }

/-- Steering begins from instance `e` (R58): ALIGNING in STANDSTILL with AlignMode 0, otherwise ACQUIRING. A holdover rate
that no fold has loaded yet is dropped (DESIGN CHOICE, log entry 46). -/
def State.beginSteering (s : State) (e : EthId) : State :=
  let st := if s.sys.dev = .standstill ∧ s.conf cAlignMode = 0 then ServoState.aligning else .acquiring
  ({ s with tb := { s.tb.clearRuns with steering := some e, servo := st, nextF := none } }).noteGrandmaster e false

/-- HOLDOVER (R59): the mean rate of the last HoldoverAverage folds is loaded at the next fold, and the integral term
that holds it. -/
def State.enterHoldover (s : State) : State :=
  let h := s.tb.history.take (s.conf cHoldoverAverage)
  let mean := if h.isEmpty then s.tb.f else freeQuot s.free h.sum h.length
  { s.nextFree with
    tb := { s.tb.clearRuns with steering := none, servo := .holdover, nextF := some mean, integ := -256 * mean } }

/-- Re-evaluate the steering instance (R55, R58, R59): non-revertive; a switch to the other instance waits for the next
fold; with no eligible instance HOLDOVER begins at once. -/
def State.steer (s : State) : State :=
  match s.tb.steering with
  | some e =>
    if (s.ethPort e).eligible || (s.ethPort (otherEth e)).eligible then s else s.enterHoldover
  | none =>
    match s.choice with
    | some e => s.beginSteering e
    | none => s

/-- A write of PtpSelect has taken effect: the preferred eligible instance steers (R55). -/
def State.ptpSelected (s : State) : State :=
  match s.tb.steering, s.choice with
  | some e, some c =>
    if e = c then s
    else ({ s with tb := { s.tb with steering := some c, accepted := [], refused := 0 } }).noteGrandmaster c false
  | _, _ => s.steer

/-! ### Offset samples (R54, R57, R58) -/

/-- JumpThreshold in half fu: ns * 1,024 (R57, R70). -/
def State.jumpHalf (s : State) : Int := 2 * (1024 * (s.conf cJumpThreshold : Int))

/-- A sample of the steering instance, in half fu (R57, R58, R60): accepted or refused; the first sample in ALIGNING may
call for an automatic step, and ACQUIRING begins with that sample, not with the fold (DESIGN CHOICE, log entry 46). -/
def State.steeringSample (s : State) (theta : Int) (master : PtpTime) : State :=
  let refuse := decide (s.jumpHalf < |theta|)
  let aligning := decide (s.tb.servo = .aligning)
  let tb := s.tb
  let tb := if aligning then
      { tb with servo := .acquiring,
                autoStep := if refuse && decide (s.sys.dev = .standstill) then some theta else tb.autoStep }
    else tb
  if refuse then
    ({ s with tb := { tb with refused := tb.refused + 1, lastRefused := theta } }).bump kTimeJumpRefused
  else
    { s with tb := { tb with accepted := tb.accepted ++ [theta], sampleTime := master,
                             servo := if tb.servo = .refusing then .acquiring else tb.servo } }

/-- The status PortDiff from the two offsets (R55, R72). -/
def State.notePortDiff (s : State) : State :=
  match s.tb.steering with
  | none => s
  | some e =>
    match (s.ethPort (otherEth e)).theta, (s.ethPort e).theta with
    | some a, some b => (s.nextFree).setStat kTimePortDiff ((freeQuot s.free (a - b) 2 % 2 ^ 64).toNat)
    | _, _ => s

/-- A completed exchange of instance `e` with offset `theta`, in half fu. -/
def State.sample (s : State) (e : EthId) (theta : Int) : State :=
  let p := s.ethPort e
  let s := s.setEth e { p with theta := some theta, exchanges := p.exchanges + 1, syncSeq := none, t1 := none, t2 := none,
                               dreqSeq := none, t3 := none, t4 := none }
  let s := if s.tb.steering = some e then s.steeringSample theta p.t1time else s
  (s.steer).notePortDiff

/-- t2 - t1 of an exchange, signed (R13). -/
def forward (t2 : Tw) (t1 : Int) : Int := twDiff t2 (BitVec.ofInt 64 t1)

/-- Form the sample when the exchange is complete (R54): E2E needs t1 to t4, P2P t1, t2 and a peer delay. The offset is
exact in half fu. -/
def State.tryComplete (s : State) (e : EthId) : State :=
  let p := s.ethPort e
  let asym := 2 * s.confInt 32 (cEthDelayAsymmetry e.val)
  if s.conf (cEthDelayMechanism e.val) = 2 then
    match p.t1, p.t2, p.peerDelay with
    | some t1, some t2, some d => s.sample e (2 * forward t2 t1 - d - asym)
    | _, _, _ => s
  else
    match p.t1, p.t2, p.t3, p.t4 with
    | some t1, some t2, some t3, some t4 =>
      let there := forward t2 t1
      let back := twDiff (BitVec.ofInt 64 t4) t3
      s.sample e (2 * there - (there + back) - asym)
    | _, _, _, _ => s

/-- The exchange is discarded without a sample (R54). -/
def EthPort.discard (p : EthPort) : EthPort :=
  { p with syncSeq := none, t1 := none, t2 := none, dreqSeq := none, t3 := none, t4 := none }

/-- A PTP message is taken only on an enabled instance (R52, R70). -/
def State.ptpOn (s : State) (e : EthId) : Bool := decide (s.conf (cEthPtpEnable e.val) = 1)

/-- A frame that the instance does not support is dropped and counted (R52, R72). -/
def State.ethDrop (s : State) (e : EthId) : State :=
  s.bump (if e = 0 then kTimeEthDropped0 else kTimeEthDropped1)

def State.p2p (s : State) (e : EthId) : Bool := decide (s.conf (cEthDelayMechanism e.val) = 2)

/-- What the instance does with a frame: `act` with the PTP message of one of the types, `otherwise` a drop (R52). Without
link no frame arrives, and nothing happens (log entry 2). -/
def State.onPtp (s : State) (e : EthId) (types : List Nat) (frame : List Byte) (act : List Byte → State) : State :=
  if (s.ethPort e).link then
    match s.ptpMessage e types frame with
    | some m => if ptpRateOk m then act m else s.ethDrop e
    | none => s.ethDrop e
  else s

/-! ### The commands -/

/-- SYNC: t2, and t1 of a one-step Sync (R54). -/
def execSync (dt : Nat) (e : EthId) (cap : Capture) (frame : List Byte) (s : State) : Host.Outcome State Fault Refusal :=
  let s := s.elapse dt
  .next <| s.onPtp e [0] frame (fun m =>
    let p := (s.ethPort e).discard
    let p := { p with syncSeq := some (ptpSeq m), t2 := some (s.rxStamp e cap), syncCorr := corrFu (ptpCorr m),
                      syncAt := s.tb.c, syncFu := intervalFu (ptpLogInterval m) }
    let p := if ptpTwoStep m then p
      else { p with t1 := some (ptpFu (ptpTimeAt m 34) + corrFu (ptpCorr m)), t1time := ptpTimeAt m 34 }
    (s.setEth e p).tryComplete e)

/-- FOLLOW_UP: t1 of a two-step Sync; another sequence discards the exchange (R54). -/
def execFollowUp (dt : Nat) (e : EthId) (frame : List Byte) (s : State) : Host.Outcome State Fault Refusal :=
  let s := s.elapse dt
  .next <| s.onPtp e [8] frame (fun m =>
    let p := s.ethPort e
    if p.syncSeq = some (ptpSeq m) then
      (s.setEth e { p with t1 := some (ptpFu (ptpTimeAt m 34) + corrFu (ptpCorr m) + p.syncCorr),
                           t1time := ptpTimeAt m 34 }).tryComplete e
    else s.setEth e p.discard)

/-- DELAY_REQ: the device sends a Delay_Req on an E2E instance; t3 is its egress (R54). -/
def execDelayReq (dt : Nat) (e : EthId) (seq : BitVec 16) (cap : Capture) (s : State) : Host.Outcome State Fault Refusal :=
  let s := s.elapse dt
  .next <|
    if s.ptpOn e && !s.p2p e && (s.ethPort e).link then
      (s.setEth e { s.ethPort e with dreqSeq := some seq, t3 := some (s.txStamp e cap), t4 := none, dreqAt := s.tb.c }).ptpSend
        e false (s.delayReqMsg e seq)
    else s

/-- DELAY_RESP: t4; another sequence discards the exchange (R54). -/
def execDelayResp (dt : Nat) (e : EthId) (frame : List Byte) (s : State) : Host.Outcome State Fault Refusal :=
  let s := s.elapse dt
  .next <| s.onPtp e [9] frame (fun m =>
    if s.p2p e then s.ethDrop e
    else
      let p := s.ethPort e
      if p.dreqSeq = some (ptpSeq m) then
        (s.setEth e { p with t4 := some (ptpFu (ptpTimeAt m 34) - corrFu (ptpCorr m)) }).tryComplete e
      else s.setEth e p.discard)

/-- PDELAY_REQ: the answer, one-step with the turnaround in correctionField, or two-step (R52); the fields of the answer
are those of IEEE 1588-2019 11.4 (PRESUMED, log entry 10). -/
def execPdelayReq (dt : Nat) (e : EthId) (cap txCap : Capture) (frame : List Byte) (s : State) :
    Host.Outcome State Fault Refusal :=
  let s := s.elapse dt
  .next <| s.onPtp e [2] frame (fun m =>
    if !s.p2p e then s.ethDrop e
    else
      let t2 := s.rxStamp e cap
      let t3 := s.txStamp e txCap
      let who := (m.drop 20).take 10
      if s.conf (cEthPdelayRespMode e.val) = 1 then
        s.ptpSend e true (s.pdelayRespMsg e (ptpSeq m) who false ⟨0, 0⟩ (ptpCorr m + 64 * twDiff t3 t2))
      else
        let r := s.toPtp t2
        let o := s.toPtp t3
        (s.ptpSend e true (s.pdelayRespMsg e (ptpSeq m) who true r.1 (-(64 * (r.2 : Int))))).ptpSend e true
          (s.pdelayFollowUpMsg e (ptpSeq m) who o.1 (ptpCorr m + 64 * (o.2 : Int))))

/-- PDELAY_REQ_SEND: the device measures the peer delay (R54). -/
def execPdelayReqSend (dt : Nat) (e : EthId) (seq : BitVec 16) (cap : Capture) (s : State) :
    Host.Outcome State Fault Refusal :=
  let s := s.elapse dt
  .next <|
    if s.ptpOn e && s.p2p e && (s.ethPort e).link then
      (s.setEth e { s.ethPort e with pdSeq := some seq, pd1 := some (s.txStamp e cap), pd4 := none, pdReceipt := none }).ptpSend
        e true (s.pdelayReqMsg e seq)
    else s

/-- The peer delay, in half fu: (t4 - t1) less the partner's turnaround and the corrections, each in fu (R54). -/
def State.peerDone (s : State) (e : EthId) (turn corr : Int) : State :=
  let p := s.ethPort e
  match p.pd1, p.pd4 with
  | some a, some b =>
    s.setEth e { p with peerDelay := some (twDiff b a - turn - corr), pdSeq := none, pd1 := none, pd4 := none,
                        pdReceipt := none }
  | _, _ => s

/-- PDELAY_RESP: a Pdelay_Resp, or its Follow_Up, completes a peer-delay measurement; another sequence changes nothing
(R54). -/
def execPdelayResp (dt : Nat) (e : EthId) (cap : Capture) (frame : List Byte) (s : State) : Host.Outcome State Fault Refusal :=
  let s := s.elapse dt
  .next <| s.onPtp e [3, 10] frame (fun m =>
    let p := s.ethPort e
    if !s.p2p e then s.ethDrop e
    else if p.pdSeq ≠ some (ptpSeq m) then s
    else if ptpType m = 3 then
      let s := s.setEth e { p with pd4 := some (s.rxStamp e cap), pdReceipt := some (ptpTimeAt m 34), pdCorr := ptpCorr m }
      if ptpTwoStep m then s else s.peerDone e 0 (corrFu (ptpCorr m))
    else
      match p.pdReceipt with
      | some r => s.peerDone e (ptpFu (ptpTimeAt m 34) - ptpFu r) (corrFu (ptpCorr m) + corrFu p.pdCorr)
      | none => s)

/-- The contents of an Announce: the data set for the comparison of R55 is its bytes 47 to 62 and the sender's identity. -/
def announceOf (m : List Byte) : AnnounceMsg :=
  ⟨BitVec.ofNat 64 (beAt m 53 8), beNat ((m.drop 47).take 16 ++ (m.drop 20).take 10), BitVec.ofNat 16 (beAt m 44 2),
    intervalFu (ptpLogInterval m)⟩

/-- ANNOUNCE: qualifies the master or changes GrandmasterId (R55, R59). -/
def execAnnounce (dt : Nat) (e : EthId) (frame : List Byte) (s : State) : Host.Outcome State Fault Refusal :=
  let s := s.elapse dt
  .next <| s.onPtp e [11] frame (fun m =>
    let p := s.ethPort e
    let p := { p with master := some (announceOf m), announces := (s.tb.c :: p.announces).take 2 }
    let s := s.setEth e { p with qual := p.qual || p.qualifies }
    let s := if s.tb.steering = some e then s.noteGrandmaster e true else s
    s.steer)

/-- An answer is overdue: the Follow_Up of a two-step Sync, or the Delay_Resp of a Delay_Req, has not come within one Sync
interval (R54). -/
def State.exchangeOverdue (s : State) (e : EthId) : Bool :=
  let p := s.ethPort e
  (p.syncSeq.isSome && p.t1.isNone && decide (p.syncFu ≤ s.since p.syncAt)) ||
    (p.t3.isSome && p.t4.isNone && decide (p.syncFu ≤ s.since p.dreqAt))

/-- EXCHANGE_TIMEOUT: the exchange is discarded without a sample (R54). -/
def execExchangeTimeout (dt : Nat) (e : EthId) (s : State) : Host.Outcome State Fault Refusal :=
  let s := s.elapse dt
  .next (if s.exchangeOverdue e then s.setEth e (s.ethPort e).discard else s)

/-- The instance has no master any more (R55). -/
def EthPort.masterless (p : EthPort) : EthPort :=
  { p.discard with master := none, announces := [], qual := false, exchanges := 0 }

/-- ANNOUNCE_TIMEOUT: no Announce within AnnounceTimeout intervals; the instance becomes ineligible (R55). -/
def execAnnounceTimeout (dt : Nat) (e : EthId) (s : State) : Host.Outcome State Fault Refusal :=
  let s := s.elapse dt
  let p := s.ethPort e
  .next <|
    match p.master, p.announces with
    | some m, a :: _ =>
      if s.conf (cEthAnnounceTimeout e.val) * m.interval ≤ s.since a then (s.setEth e p.masterless).steer else s
    | _, _ => s

/-- ETH_LINK_CHANGE: eligibility and SyncE qualification follow the link (R50, R55); a port that comes up sends ESMC with
QL-DNU (R51). That the message repeats is left out (DESIGN CHOICE, log entry 46). -/
def execEthLinkChange (dt : Nat) (e : EthId) (up : Bool) (s : State) : Host.Outcome State Fault Refusal :=
  let s := s.elapse dt
  let p := s.ethPort e
  let p' := if up then { p with link := true } else { p.masterless with link := false, ql := none }
  let s := ((s.setEth e p').steer).pickSource
  .next (if up then s.emit (.esmc e.val esmcSent) else s)

/-- ARP_REQUEST: answered for the port's own address when it has one, otherwise dropped; the transport of PTP does not
matter, as alert datagrams come over IPv4 under either (R52, R172). -/
def execArpRequest (dt : Nat) (e : EthId) (frame : List Byte) (s : State) : Host.Outcome State Fault Refusal :=
  let s := s.elapse dt
  let r := ethParse frame
  let own := s.conf (cEthIpv4Address e.val)
  .next <|
    if !(s.ethPort e).link then s
    else
      match arpParse r.body with
      | some (who, ip) =>
        if s.ethTagged e frame && decide (r.kind = 0x0806 ∧ own ≠ 0 ∧ ip = own) then
          s.emit (.arp e.val (s.conf (cEthVlanId e.val)) (arpReplyMsg e.val own who))
        else s.ethDrop e
      | none => s.ethDrop e

/-- ETH_FRAME_DROPPED: any other frame is dropped and counted (R52). -/
def execEthFrameDropped (dt : Nat) (e : EthId) (s : State) : Host.Outcome State Fault Refusal :=
  .next ((s.elapse dt).ethDrop e)

/-- ESMC: the quality level of the port; a message on the source port qualifies its frequency anew (R50, log entry 10). -/
def execEsmc (dt : Nat) (e : EthId) (ql : Nat) (s : State) : Host.Outcome State Fault Refusal :=
  let s := s.elapse dt
  let s := s.setEth e { s.ethPort e with ql := some ql, esmcAt := s.tb.c }
  let s := if e = s.synceSource then { s with tb := { s.tb with synceInRange := true } } else s
  .next s.pickSource

/-- ESMC_TIMEOUT: no ESMC message for 5 s on the source port (R50). -/
def execEsmcTimeout (dt : Nat) (s : State) : Host.Outcome State Fault Refusal :=
  let s := s.elapse dt
  let e := s.synceSource
  .next <|
    if usFu 5000000 ≤ s.since (s.ethPort e).esmcAt then
      (s.setEth e { s.ethPort e with ql := none }).pickSource
    else s

/-- HOLD_CLK_QUALIFICATION: HOLD_CLK enters or leaves ±20 ppm (R50). -/
def execHoldClkQualification (dt : Nat) (inRange : Bool) (s : State) : Host.Outcome State Fault Refusal :=
  let s := s.elapse dt
  .next ({ s with tb := { s.tb with holdInRange := inRange } }).pickSource

/-- SYNCE_FREQUENCY_OUT_OF_RANGE: the recovered frequency leaves ±9.2 ppm (R50). -/
def execSynceFrequencyOutOfRange (dt : Nat) (s : State) : Host.Outcome State Fault Refusal :=
  let s := s.elapse dt
  .next ({ s with tb := { s.tb with synceInRange := false } }).pickSource

/-! ### The fold (R46, R47, R56 to R61) -/

/-- A fold is due: C has crossed the next multiple of 2^36 fu (R46). -/
def Timebase.foldDue (t : Timebase) : Bool := decide (2 ^ 36 ≤ (t.c - t.cref).toNat)

/-- The raw count of the fold. -/
def Timebase.foldAt (t : Timebase) : BitVec 64 := t.cref + 0x1000000000#64

/-- b and cref across a fold: b + f/16, exact in 40 fraction bits; the TW is continuous (R46). -/
def Timebase.folded (t : Timebase) : Timebase := { t with b := t.b + t.f * 2 ^ 36, cref := t.foldAt }

/-- The new integral term (R56). -/
def servoInteg (ki maxRate integ theta : Int) : Int :=
  clampInt (-(maxRate * 256)) (maxRate * 256) (integ + ki * theta)

/-- The new rate (R56); where the quotient is not whole its rounding is free (log entry 6). -/
def servoRate (n : Nat) (kp maxRate integ theta : Int) : Int :=
  clampInt (-maxRate) maxRate (freeQuot n (-(kp * theta + integ)) 256)

/-- The mean of the accepted samples, held in half fu, to the nearest fu, ties to even (R56). -/
def meanTheta (samples : List Int) : Int := roundEven samples.sum (2 * samples.length)

/-- The step that is due at a fold, as the new b: automatic, or manual, which decides when both are due (R60). -/
def Timebase.stepB (t : Timebase) : Option Int :=
  match t.stepTarget with
  | some w => some (((w - t.cref).toInt) * 2 ^ 40)
  | none => match t.autoStep with
    | some th => some (t.b - th * 2 ^ 39)
    | none => none

/-- A pending commit that a step leaves too near or too far is removed and journalled (R286). -/
def State.recheckPending (s : State) : State :=
  match s.cfg.pending with
  | none => s
  | some (n, _) =>
    let lead := twDiff (sliceStart n) s.now
    let code := if lead < 1024 * (sliceFu : Int) then 3 else if 2 ^ 24 * (sliceFu : Int) < lead then 4 else 0
    if code = 0 then s
    else ({ s with cfg := { s.cfg with pending := none, lastCommit := code } }).journal 0x0011 srcDevice
      (jdata [(0, code), (8, n)])

/-- A step empties the slice index (R61): nothing before the first slice after the step is readable. -/
def State.emptyIndex (s : State) (n : Nat) : State :=
  { s with hist := { s.hist.emptyIndex with oldest := n } }

/-- The effects of a step besides b: counted, journalled, the index emptied, a pending commit checked again, the pulse
generators re-evaluated with their FLASH frames, and the present epoch in force for every slice (R60, R61, R69, R286, R401). -/
def State.stepped (s : State) (by_ : Int) : State :=
  let s := (s.bump kTimeStepCount).journal 0x0104 srcDevice (jdata [(0, (by_ % 2 ^ 64).toNat)])
  let s := s.emptyIndex (sliceAdd s.slice 1)
  let servo : ServoState := if s.tb.servo = ServoState.refusing then .acquiring else s.tb.servo
  let s : State := { s with
    cfg := { s.cfg with past := [⟨s.slice, s.cfg.number, s.cfg.epoch⟩] }
    tb := { s.tb with servo := servo } }
  let old := (List.range 16).map (fun n => (n, (s.gen n).nextPulse))
  old.foldl (fun (s : State) e => s.lampSchedule e.1 e.2) s.recheckPending.pulsesStep

/-- The servo states at a fold (R57, R58): `th` is the mean of the fold, none without an accepted sample. Such a fold ends
the runs of consecutive folds (DESIGN CHOICE, log entry 46). -/
def State.servoFold (s : State) (th : Option Int) : State :=
  let lt : Int := s.conf cServoLockThreshold
  let lockRun : Nat := match th with | some t => if |t| < lt then s.tb.lockRun + 1 else 0 | none => 0
  let unlockRun : Nat := match th with | some t => if 4 * lt < |t| then s.tb.unlockRun + 1 else 0 | none => 0
  let refuseRun : Nat := if 0 < s.tb.refused ∧ th = none then s.tb.refuseRun + 1 else 0
  let tb := { s.tb with lockRun := lockRun, unlockRun := unlockRun, refuseRun := refuseRun, accepted := [], refused := 0 }
  let s : State := { s with tb := tb }
  let set : ServoState → State := fun st => { s with tb := { s.tb with servo := st, lockRun := 0, unlockRun := 0 } }
  if s.conf cServoRefuseLimit ≤ refuseRun ∧ (s.tb.servo = .acquiring ∨ s.tb.servo = .locked) then
    ((set .refusing).nextFree).journal 0x0101 srcDevice
      (jdata [(0, (freeQuot s.free s.tb.lastRefused 2 % 2 ^ 64).toNat)])
  else if s.tb.servo = .acquiring ∧ s.conf cServoLockCount ≤ lockRun then set .locked
  else if s.tb.servo = .locked ∧ 4 ≤ unlockRun then set .acquiring
  else s

/-- The PTP time in nanoseconds whose canonical TW is nearest to the master's time (R49); a TW between two nanoseconds
takes the earlier one (log entry 11). -/
def anchorNsTotal (t : Tw) (master : PtpTime) : Int :=
  (ptpFu master + twDiff t (BitVec.ofInt 64 (ptpFu master))) / 1024

/-- The anchor is set at a fold that uses an accepted sample (R49, R60). -/
def State.setAnchor (s : State) : State :=
  let t := s.tb.tw s.tb.cref
  let ns := anchorNsTotal t s.tb.sampleTime
  { s with tb := { s.tb with anchorValid := true, anchorDue := false, anchorTw := t, anchorSec := (ns / 1000000000).toNat,
                             anchorNs := (ns % 1000000000).toNat } }

/-- The steering instance switches at a fold when it is not eligible and the other is (R59). -/
def State.switchSteering (s : State) : State :=
  match s.tb.steering with
  | some e =>
    if !(s.ethPort e).eligible && (s.ethPort (otherEth e)).eligible then
      ({ s with tb := { s.tb with steering := some (otherEth e) } }).noteGrandmaster (otherEth e) false
    else s
  | none => s

/-- The rate that a fold loads (R56, R58, R59): clamped to MaxRate at a fold with a sample; the holdover mean, and f at a
fold without a sample, are not clamped anew (DESIGN CHOICE, log entry 46). -/
def State.loadRate (s : State) : State :=
  let tb := s.tb
  let mr : Int := s.conf cServoMaxRate
  if tb.accepted.isEmpty then
    let f := tb.nextF.getD tb.f
    { s with tb := { tb with f := f, nextF := none, history := (f :: tb.history).take 1024 } }
  else
    let th := meanTheta tb.accepted
    let integ := servoInteg (s.conf cServoKi) mr tb.integ th
    let f := servoRate s.free (s.conf cServoKp) mr integ th
    ({ s.nextFree with tb := { tb with f := f, integ := integ, nextF := none, history := (f :: tb.history).take 1024 } }).setStat
      kTimeLastOffset (th % 2 ^ 64).toNat

/-- The step of a fold, made only in STANDSTILL (R60). An automatic step calls for a new anchor, a manual one ends the
anchor's validity (R49, R60). -/
def State.foldStep (s : State) : State :=
  let due := s.tb.stepB
  let manual := s.tb.stepTarget.isSome
  let old := s.tb.tw s.tb.cref
  let s := { s with tb := { s.tb with stepTarget := none, autoStep := none } }
  match due with
  | some b =>
    if s.sys.dev = .standstill then
      let s := { s with tb := { s.tb with b := b, anchorValid := s.tb.anchorValid && !manual, anchorDue := !manual } }
      s.stepped (twDiff (s.tb.tw s.tb.cref) old)
    else s
  | none => s

/-- The fold (R46): b and cref, a step that is due, the servo, the anchor, the steering switch. -/
def State.foldNow (s : State) : State :=
  let manual := s.tb.stepTarget.isSome && decide (s.sys.dev = .standstill)
  let s := ({ s with tb := s.tb.folded }).foldStep
  let th := if s.tb.accepted.isEmpty then none else some (meanTheta s.tb.accepted)
  let s := s.loadRate
  let s := if th.isSome && (!s.tb.anchorValid || s.tb.anchorDue) && !manual then s.setAnchor else s
  (s.servoFold th).switchSteering

/-- FOLD: nothing happens before C has crossed the multiple of 2^36 fu (log entry 2). -/
def execFold (dt : Nat) (s : State) : Host.Outcome State Fault Refusal :=
  let s := s.elapse dt
  .next (if s.tb.foldDue then s.foldNow else s)

/-- ANCHOR_ADVANCE: the anchor moves forward by exactly 2^62 fu, 4,503,599 s and 627,370,496 ns (R49). -/
def execAnchorAdvance (dt : Nat) (s : State) : Host.Outcome State Fault Refusal :=
  let s := s.elapse dt
  .next <|
    if s.tb.anchorValid && decide (2 ^ 62 ≤ twDiff s.now s.tb.anchorTw) then
      let ns := s.tb.anchorNs + 627370496
      { s with tb := { s.tb with anchorTw := s.tb.anchorTw + 0x4000000000000000#64,
                                 anchorSec := s.tb.anchorSec + 4503599 + ns / 1000000000, anchorNs := ns % 1000000000 } }
    else s

end Sys2Proof.Machine
end

