-- ==== Sys2Proof/Machine/Triggers.lean ====
section
/-! DEFINITION. The trigger engine: binding (R33, R159), the multiplicity units (R161), the handling of the triggers of a
slice (R162 to R166, R168, R169), outcomes (R170, R171) and alert datagrams (R172 to R175). -/

namespace Sys2Proof.Machine

/-- The number of a source in header byte 33 (R179), which is also its priority, 0 the highest (R24). -/
def TrigSource.num : TrigSource → Nat
  | .tin => 0 | .mult => 1 | .feature => 2 | .scheduled => 3 | .alert => 4 | .host => 5

/-- The source is data-derived (R159). -/
def TrigSource.derived : TrigSource → Bool
  | .tin => true | .mult => true | .feature => true | .scheduled => true | .alert => false | .host => false

/-- A data-derived trigger; its window follows at its binding slice (R164). -/
def derivedTrig (src : TrigSource) (num cls : Nat) (t : Tw) : Trig := ⟨src, num, cls, t, t, t, 0#32, none, 0, 0#64⟩

/-- Bind a trigger to slice `n` (R33); outside the run nothing handles it. -/
def State.bind (s : State) (n : Nat) (t : Trig) : State :=
  if s.inRun n && !sliceLt n s.hist.nextClose then
    { s with trig := { s.trig with bound := Tab.put s.trig.bound n (Tab.get [] s.trig.bound n ++ [t]) } }
  else s

/-- A data-derived trigger of class `cls` at time `t` (R33, R159). -/
def State.raise (s : State) (src : TrigSource) (num cls : Nat) (t : Tw) : State :=
  s.bind (sliceOf t) (derivedTrig src num cls t)

/-- The first slice whose seal lies strictly after a receipt time (R33). -/
def State.bindSlice (s : State) (tr : Tw) (n : Nat) (prev : Option Tw) : Nat → Nat
  | 0 => n
  | k + 1 =>
    let t := s.sealAfter n prev
    if before tr t then n else State.bindSlice s tr (sliceAdd n 1) (some t) k

/-- The first of the slices sealed and not yet closed whose seal lies strictly after `tr`: the receive timestamp of an alert
lies a little before the command that brings it (R33, R53). -/
def State.sealedAfter (s : State) (tr : Tw) : Option Nat :=
  ((s.hist.seals.filter (fun e => before tr e.2)).map Prod.fst).foldl (fun m n =>
    match m with
    | none => some n
    | some k => if sliceLt n k then some n else some k) none

/-- The binding slice of a host request or alert received at `tr` (R33). -/
def State.bindingOf (s : State) (tr : Tw) : Nat :=
  (s.sealedAfter tr).getD (s.bindSlice tr (s.hist.nextSeal.getD 0) s.hist.lastSeal 4096)

/-! ### Multiplicity (R161) -/

/-- A hit qualifies for unit `m` in slice `n`. -/
def State.qualifies (s : State) (n m : Nat) (h : Hit) : Bool :=
  bit (s.confAt n (cMuPortMask m (h.port / 32))) (h.port % 32) &&
    decide (s.confAt n (cMuChannelLow m) ≤ h.chan ∧ h.chan ≤ s.confAt n (cMuChannelHigh m)) &&
    (!h.flags.getLsbD 2 || decide (s.confAt n (cMuCountFp m) = 1))

/-- One qualifying hit: the unit afterwards, whether it fires, and whether it is suppressed. -/
def Mult.step (u : Mult) (window threshold mode holdoff : Nat) (h : Hit) : Mult × Bool × Bool :=
  let l := u.list.filter (fun g => decide (twDiff h.tw g.1 < window)) ++ [(h.tw, h.port)]
  let l := if 1024 < l.length then l.drop 1 else l
  let k := if mode = 0 then l.length else ((l.map Prod.snd).dedup).length
  if threshold ≤ k then
    match u.last with
    | none => (⟨l, some h.tw⟩, true, false)
    | some f => if (holdoff : Int) ≤ twDiff h.tw f then (⟨l, some h.tw⟩, true, false) else (⟨l, u.last⟩, false, true)
  else (⟨l, u.last⟩, false, false)

/-- Unit `m` over the hits of slice `n`; the triggers raised are added behind `acc`. -/
def State.multUnit (s : State) (n m : Nat) : List Hit → List Trig → State × List Trig
  | [], acc => (s, acc)
  | h :: hs, acc =>
    if s.qualifies n m h then
      let u := Tab.get Mult.empty s.trig.mults m
      let r := u.step (s.confAt n (cMuWindow m)) (s.confAt n (cMuThreshold m)) (s.confAt n (cMuMode m))
        (s.confAt n (cMuHoldoff m)) h
      let s := { s with trig := { s.trig with mults := Tab.set Mult.empty s.trig.mults m r.1 } }
      let s := (s.bump (kMuFired m) (bnat r.2.1)).bump (kMuSuppressed m) (bnat r.2.2)
      State.multUnit s n m hs (if r.2.1 then acc ++ [derivedTrig .mult m (s.confAt n (cMuClass m)) h.tw] else acc)
    else State.multUnit s n m hs acc

/-- Every enabled unit over the hits of slice `n` (R161). -/
def State.multUnits (s : State) (n : Nat) (hits : List Hit) : State × List Trig :=
  (List.range 16).foldl (fun r m =>
    if s.confAt n (cMuEnable m) = 1 then r.1.multUnit n m hits r.2 else r) (s, [])

/-! ### Order (R24, R162) -/

/-- The trigger time as an offset from the start of the binding slice (R13). -/
def Trig.offset (n : Nat) (t : Trig) : Int := twDiff t.time (sliceStart n)

/-- What decides between triggers of one time: source priority, class, source number, arrival. -/
def Trig.tie (t : Trig) : List Nat := [t.source.num, t.cls, t.srcNum, t.order]

/-- `a` comes before `b`, or beside it, in the order of R24 and R162. -/
def Trig.le (n : Nat) (a b : Trig) : Bool :=
  decide (a.offset n < b.offset n) || (decide (a.offset n = b.offset n) && decide (a.tie ≤ b.tie))

def sortTrigs (n : Nat) (l : List Trig) : List Trig := l.insertionSort (fun a b => Trig.le n a b = true)

/-- Put one list of ordered triggers into another; neither list changes its own order. -/
def mergeTrigs (n : Nat) (a b : List Trig) : List Trig := List.merge a b (fun x y => Trig.le n x y)

/-! ### Outcomes (R170, R171) -/

/-- The outcomes of R170. -/
inductive Outcome where
  | opened | merged | absorbed | trimmed | tooOld | badWindow | outOfOrder | noContext | overflow | badClass | notRun
  | wrongRole | badFormat | badKey | auth | noAnchor | stale | replay
  deriving DecidableEq, Repr

/-- The code of an outcome (R170). -/
def Outcome.code : Outcome → Nat
  | .opened => 0 | .merged => 1 | .absorbed => 2 | .trimmed => 3 | .tooOld => 16 | .badWindow => 17 | .outOfOrder => 18
  | .noContext => 19 | .overflow => 20 | .badClass => 21 | .notRun => 22 | .wrongRole => 23 | .badFormat => 32
  | .badKey => 33 | .auth => 34 | .noAnchor => 35 | .stale => 36 | .replay => 37

/-- The outcome of a host request to its session (R171, R280 code 1), and LastRequestTag with LastRequestOutcome. -/
def State.tellOutcome (s : State) (t : Trig) (o : Outcome) (n : Nat) (number : BitVec 32) : State :=
  match t.source, t.session with
  | .host, some k =>
    let s := (s.setStat kLastRequestTag (t.tag.toNat % 65536)).setStat kLastRequestOutcome o.code
    s.reportTo k 1 0x2502 (leBytes 2 (t.tag.toNat % 65536) ++ leBytes 1 o.code ++ leBytes 1 t.cls ++ leBytes 6 n ++
      leBytes 2 0 ++ leBytes 4 (if o.code ≤ 3 then number.toNat else 0))
  | _, _ => s

/-- The counter of a class that an outcome at the binding slice adds to (R162, R185). -/
def State.countOutcome (s : State) (k : Nat) : Outcome → State
  | .opened => s.bump64 (kClsOpened k)
  | .trimmed => s.bump64 (kClsOpened k)
  | .merged => s.bump64 (kClsMerged k)
  | .absorbed => s.bump64 (kClsAbsorbed k)
  | .tooOld => s.bump (kClsTooOld k)
  | .badWindow => s.bump (kClsBadWindow k)
  | .outOfOrder => s.bump (kClsOutOfOrder k)
  | .noContext => s.bump (kClsContextRefused k)
  | .overflow => (s.bump (kClsOverflow k)).bump kTriggerOverflow
  | .badClass => s.bump (kClsSourceBlocked k)
  | .notRun => s.bump (kClsNotRun k)
  | .wrongRole | .badFormat | .badKey | .auth | .noAnchor | .stale | .replay => s

/-! ### Placement (R164 to R166, R168, R169) -/

/-- The window of a trigger at its binding slice (R164). -/
def State.windowed (s : State) (n : Nat) (t : Trig) : Trig :=
  if t.source.derived then
    { t with wstart := t.time - BitVec.ofNat 64 (s.confAt n (cClsPre t.cls)),
             wend := t.time + BitVec.ofNat 64 (s.confAt n (cClsPost t.cls)) }
  else t

/-- The window is valid (R164). -/
def windowValid (n : Nat) (t : Trig) : Bool :=
  let len := (t.wend - t.wstart).toNat
  decide (1 ≤ len ∧ len ≤ 2 ^ 40) && decide (twDiff t.wend (sliceStart (sliceAdd n 1)) ≤ 2 ^ 36)

/-- The window starts before the history (R165): `oldest` is OldestSlice after the write of the binding slice. -/
def State.windowOld (s : State) (oldest : Nat) (t : Trig) : Bool :=
  sliceLt (sliceOf t.wstart) s.hist.firstRun || sliceLt (sliceOf t.wstart) oldest

/-- Open a context for [ws, we) (R166, R168, R169); the outcome and the class record number. -/
def State.openContext (s : State) (n rank : Nat) (t : Trig) (ws we : Tw) (trimmed : Bool) : State × Outcome × BitVec 32 :=
  let late := match s.hist.runStop with | some c => notAfter (sliceStart c) ws | none => false
  if late then (s, .notRun, 0#32)
  else if 3072 ≤ s.trig.contexts.length then (s, .noContext, 0#32)
  else
    let x := lowestFree 0 s.trig.contexts
    let num := s.takeNumber t.cls
    let s := num.2
    let c : Context := ⟨t.cls, ws, we, num.1, 0, t, 1, n, rank, trimmed, false, false, s.firstWord (sliceOf ws), s.epochAt n, none⟩
    let k := s.cls t.cls
    let s := (s.addContext c).setCls t.cls { k with latest := some ⟨ws, we, some x, num.1⟩ }
    (s.clip x, if trimmed then .trimmed else .opened, num.1)

/-- One more trigger in the open piece of a context, its trigger count saturating (R179). -/
def State.countTrigger (s : State) (x : Nat) : State :=
  match s.context x with
  | some c => s.setContext x { c with count := min (c.count + 1) 65535 }
  | none => s

/-- Placement against the latest context of the class (R166). -/
def State.placeClass (s : State) (n rank : Nat) (t : Trig) : State × Outcome × BitVec 32 :=
  match (s.cls t.cls).latest with
  | none => s.openContext n rank t t.wstart t.wend false
  | some l =>
    if before t.wstart l.ls then (s, .outOfOrder, 0#32)
    else if notAfter t.wend l.le then
      (match l.ctx with | some x => s.countTrigger x | none => s, .absorbed, l.number)
    else
      let gap := BitVec.ofNat 64 (s.confAt n (cClsMergeGap t.cls))
      match l.ctx with
      | some x =>
        if before t.wstart (l.le + gap) then
          let s := s.countTrigger x
          let s := match s.context x with | some c => s.endAt x c t.wend | none => s
          (s.clip x, .merged, l.number)
        else s.openContext n rank t t.wstart t.wend false
      | none =>
        if before t.wstart l.le then s.openContext n rank t l.le t.wend true
        else s.openContext n rank t t.wstart t.wend false

/-- Steps 4 to 7 of R162. -/
def State.place (s : State) (n oldest rank : Nat) (t : Trig) : State × Outcome × BitVec 32 :=
  if !windowValid n t then (s, .badWindow, 0#32)
  else if s.windowOld oldest t then
    let s := s.lose .tooOld 1 n (0x0200 + t.cls)
    ({ s with trig := { s.trig with refused := s.trig.refused ++ [(n, rank, t.cls)] } }, .tooOld, 0#32)
  else s.placeClass n rank t

/-- A placement that a joining partner needs (R341): its window starts before the join slice; a TOO_OLD refusal is sent
too, as it takes a record sequence number. -/
def State.forwardPlacement (s : State) (t : Trig) (o : Outcome) (rank : Nat) (number : BitVec 32) : State :=
  match s.twin.joinAt with
  | some j =>
    if s.forwards && decide (o.code ≤ 16) && before t.wstart (sliceStart j) then
      { s with twin := { s.twin with placed := s.twin.placed ++
        [⟨t.cls, o.code, rank, number, t.wstart, t.wend⟩] } }
    else s
  | none => s

/-- A joiner leaves the placement of windows that start before the join slice to its partner (R341). -/
def State.leftToPartner (s : State) (t : Trig) : Bool :=
  match s.twin.joinAt with
  | some j => s.twin.joining && before t.wstart (sliceStart j)
  | none => false

/-- Handle one trigger of slice `n` (R162): `r` counts the triggers that have passed step 2, and ranks them. An alert that
names a class above 63 names none, and nothing counts it. -/
def State.handle (n oldest : Nat) (r : State × Nat) (t : Trig) : State × Nat :=
  if 64 ≤ t.cls then (r.1, r.2)
  else
  let s := r.1.bump64 (kClsTriggersSeen t.cls)
  if s.confAt n (cClsEnable t.cls) ≠ 1 || !bit (s.confAt n (cClsSources t.cls)) t.source.num then
    ((s.countOutcome t.cls .badClass).tellOutcome t .badClass n 0#32, r.2)
  else
    let k := s.cls t.cls
    let p := s.confAt n (cClsPrescale t.cls)
    let s := if t.source.derived then s.setCls t.cls { k with prescale := (k.prescale + 1) % p } else s
    if t.source.derived && decide (k.prescale ≠ 0) then (s.bump64 (kClsPrescaled t.cls), r.2)
    else if 256 ≤ r.2 then ((s.countOutcome t.cls .overflow).tellOutcome t .overflow n 0#32, r.2)
    else
      let t := s.windowed n t
      if s.leftToPartner t then (s, r.2 + 1)
      else
        let d := s.place n oldest r.2 t
        (((d.1.countOutcome t.cls d.2.1).forwardPlacement t d.2.1 r.2 d.2.2).tellOutcome t d.2.1 n d.2.2, r.2 + 1)

/-- A commit that changed Prescale of a class sets its counter to 0 from its slice on (R163). -/
def State.resetPrescale (s : State) (n : Nat) : State :=
  let before_ := (n + sliceMod - 1) % sliceMod
  { s with trig := { s.trig with classes := s.trig.classes.map (fun e =>
    if s.confAt n (cClsPrescale e.1) = s.confAt before_ (cClsPrescale e.1) then e else (e.1, { e.2 with prescale := 0 })) } }

/-- The triggers of slice `n` in order, each through the steps of R162: those of the unit itself sorted, and among them those
forwarded, which keep the order in which the deciding unit forwards them. -/
def State.handleAll (s : State) (n oldest : Nat) (own fwd : List Trig) : State :=
  ((mergeTrigs n (sortTrigs n own) fwd).foldl (State.handle n oldest) (s, 0)).1

/-! ### Host requests and alerts at receipt -/

/-- What a deciding unit forwards for slice `n` (R328): its host requests and alerts, in the order of R162, as many as the
count in one byte can say (log entry 23). -/
def State.forwardList (s : State) (n : Nat) : List FwdTrigger :=
  (((sortTrigs n (Tab.get [] s.trig.bound n)).filter (fun t => !t.source.derived)).map (fun t =>
    (⟨decide (t.source = .host), t.cls, t.srcNum, t.tag, t.wstart, t.wend, t.alertSeq⟩ : FwdTrigger))).take 255

/-- A host request or an alert, received at `tr`: bound to the first slice that seals strictly after it (R33). An alert whose
receive timestamp lies before the seal just taken is forwarded in a further SLICE of that slice (log entry 23). -/
def State.request (s : State) (t : Trig) (tr : Tw) : State :=
  let s := { s with trig := { s.trig with arrivals := s.trig.arrivals + 1 } }
  let n := s.bindingOf tr
  let s := s.bind n { t with order := s.trig.arrivals }
  match Tab.look s.hist.decided n with
  | some level => if s.forwards && (s.sealedAfter tr).isSome then s.say (.slice n level (s.forwardList n) []) else s
  | none => s

/-- A write of TriggerRequest by session `k` (R171), received at `tr`. -/
def State.triggerRequest (s : State) (k : Nat) (d : List Byte) (tr : Tw) : State :=
  let start := BitVec.ofNat 64 (leAt d 8 8)
  let t : Trig := ⟨.host, k, leAt d 0 1, start, start, start + BitVec.ofNat 64 (leAt d 16 8),
    BitVec.ofNat 32 (leAt d 2 2), some k, 0, 0#64⟩
  if s.sys.dev ≠ .run then s.tellOutcome t .notRun 0 0#32
  else if s.sys.role = .mizzen ∨ s.sys.role = .fenced then s.tellOutcome t .wrongRole 0 0#32
  else s.request t tr

/-- A PTP time as a TW by the anchor (R173). -/
def State.ofPtp (s : State) (sec ns : Nat) : Tw :=
  s.tb.anchorTw + BitVec.ofInt 64 ((((sec : Int) - s.tb.anchorSec) * 1000000000 + ((ns : Int) - s.tb.anchorNs)) * 1024)

/-- The checks 1 to 6 of R173 in their order; `tr` is the receive timestamp, whose epoch gives the key (R174). -/
def State.alertCheck (s : State) (d : List Byte) (tr : Tw) : Option Outcome :=
  let slot := leAt d 3 1
  let n := sliceOf tr
  if d.length ≠ 64 ∨ beAt d 0 2 ≠ 0x4B41 ∨ beAt d 2 1 ≠ 1 ∨ 1000000000 ≤ beAt d 22 4 ∨ 1000000000 ≤ beAt d 32 4 then
    some .badFormat
  else if !(decide (slot < 8) && bit (s.confAt n cAlertKeyEnable) slot) then some .badKey
  else if alertMac (leBytes 16 (s.confAt n (cAlertKey slot))) d ≠ d.drop 56 then some .auth
  else if !s.tb.anchorValid then some .noAnchor
  else if usFu (s.confAt n cAlertMaxAge) < |twDiff tr (s.ofPtp (beAt d 16 6) (beAt d 22 4))| then some .stale
  else if beAt d 8 8 ≤ (Tab.get 0#64 s.trig.alertSeq slot).toNat then some .replay
  else none

/-- Check 7 of R173. -/
def State.alertRole (s : State) : Option Outcome :=
  if s.sys.dev ≠ .run then some .notRun
  else if s.sys.role = .mizzen ∨ s.sys.role = .fenced then some .wrongRole
  else none

/-- A datagram that passes every check: the last accepted sequence of its slot, and a trigger at the event time (R164,
R173). -/
def State.acceptAlert (s : State) (d : List Byte) (tr : Tw) : State :=
  let slot := leAt d 3 1
  let seq := BitVec.ofNat 64 (beAt d 8 8)
  let ev := s.ofPtp (beAt d 26 6) (beAt d 32 4)
  let t : Trig := ⟨.alert, slot, beAt d 44 1, ev, ev - BitVec.ofNat 64 (beAt d 36 4 * 1024),
    ev + BitVec.ofNat 64 (beAt d 40 4 * 1024), BitVec.ofNat 32 (beAt d 4 4), none, 0, seq⟩
  { s with trig := { s.trig with alertSeq := Tab.set 0#64 s.trig.alertSeq slot seq } }.request t tr

/-- Port `e` takes alert datagrams to this IPv4 destination in the epoch of slice `n` (R172). -/
def State.takesAlert (s : State) (n : Nat) (e : EthId) (dst : Nat) : Bool :=
  let own := s.confAt n (cEthIpv4Address e.val)
  let grp := s.confAt n cAlertGroup
  decide (s.confAt n cAlertEnable = 1) && ((decide (own ≠ 0) && decide (dst = own)) || (decide (grp ≠ 0) && decide (dst = grp)))

/-- The alert payload of a frame that port `e` takes with the configuration of slice `n`: UDP over IPv4 to port 47890 (R172).
Fragments, IPv4 options and wrong checksums give none. -/
def State.alertPayload (s : State) (n : Nat) (e : EthId) (frame : List Byte) : Option (List Byte) :=
  let r := ethParse frame
  if r.kind = 0x0800 ∧ s.ethTagged e frame then
    (udpParse r.body).bind (fun u => if u.port = 47890 && s.takesAlert n e u.dst then some u.payload else none)
  else none

/-- ALERT_DATAGRAM: a frame with a UDP datagram to port 47890 and its raw capture (R53, R172, R173). A mizzen counts it and
forms no trigger (R175). What the device applies to it is in force at its receive timestamp (R40, R174). -/
def execAlertDatagram (dt : Nat) (e : EthId) (cap : Capture) (frame : List Byte) (s : State) :
    Host.Outcome State Fault Refusal :=
  let s := s.elapse dt
  let tr := s.rxStamp e cap
  .next <|
    if !(s.ethPort e).link then s
    else
      match s.alertPayload (sliceOf tr) e frame with
      | none => s.ethDrop e
      | some d =>
        let s := s.bump kAlertReceived
        if s.sys.role = .mizzen then s
        else
          match (s.alertCheck d tr).orElse (fun _ => s.alertRole) with
          | some o => (s.bump kAlertRefused).setStat kLastAlertRefusal o.code
          | none => s.acceptAlert d tr

end Sys2Proof.Machine
end

