-- ==== Sys2Proof/Machine/FpPackets.lean ====
section
/-! DEFINITION. Packets on the feature processors: samples (R189, R190), admission (R198), the run of a packet (R199 to
R205), images (R208 to R210), loads (R211, R212) and upsets (R213). -/

namespace Sys2Proof.Machine

/-! ### Samples -/

/-- Samples in a word and their width, by SampleFormat (R189). -/
def sampleLayout (fmt : Nat) : Nat × Nat :=
  match fmt with
  | 1 => (4, 15)
  | 2 => (6, 10)
  | _ => (5, 12)

/-- The samples of a continuation word as received, in time order (R189). -/
def wordSamples (fmt : Nat) (w : Word) : List Nat :=
  let l := sampleLayout fmt
  (List.range l.1).map (fun j => w.toNat / 2 ^ (60 - l.2 * (j + 1)) % 2 ^ l.2)

/-- A sample as it stands in the packet window (R190). -/
def unpackSample (width v : Nat) : BitVec 24 := BitVec.ofInt 24 (((v : Int) - 2 ^ (width - 1)) * 2 ^ (24 - width))

/-- SampleFormat of a packet's port in the epoch of the slice of T (R189). -/
def State.formatOf (s : State) (k : Packet) : Nat := s.confAt (sliceOf k.tw) (cPortSampleFormat k.port)

/-- The samples of a packet. -/
def State.samplesOf (s : State) (k : Packet) : List Nat := k.words.flatMap (wordSamples (s.formatOf k))

/-- The payload of the fallback hit (R204): the continuation words, and the 12 highest bits of the largest sample. -/
def State.fallbackPayload (s : State) (k : Packet) : BitVec 20 :=
  let top := (s.samplesOf k).foldl max 0
  let width := (sampleLayout (s.formatOf k)).2
  BitVec.ofNat 20 (k.words.length * 4096 + top * 2 ^ 15 / 2 ^ width / 8)

/-! ### Images (R208, R209) -/

def imageEntry (b : List Byte) : Nat := leAt b 8 2
def imageProg (b : List Byte) : Nat := leAt b 10 2
def imageConst (b : List Byte) : Nat := leAt b 12 2
def imageBank (b : List Byte) : Nat := leAt b 14 2
def imageId (b : List Byte) : BitVec 32 := BitVec.ofNat 32 (leAt b 16 4)

/-- The first check of R209 that an image fails, by its code; 0 when it passes. -/
def imageError (b : List Byte) : Nat :=
  if leAt b 0 4 ≠ 0x4B434650 ∨ leAt b 4 2 ≠ 1 ∨ Sys2Proof.Machine.imageId b = 0#32 then 1
  else if imageProg b = 0 ∨ 16384 < imageProg b ∨ 8192 < imageConst b ∨ 3072 < imageBank b then 2
  else if b.length ≠ 64 + 8 * imageProg b + 4 * imageConst b + 4 * imageBank b then 5
  else if imageProg b ≤ imageEntry b then 3
  else if (crc32c (b.take 60 ++ b.drop 64)).toNat ≠ leAt b 60 4 then 4
  else 0

/-- `n` little-endian values of `w` bytes each. -/
def leWords (w : Nat) : Nat → List Byte → List Nat
  | 0, _ => []
  | n + 1, b => leNat (b.take w) :: leWords w n (b.drop w)

def imageProgWords (b : List Byte) : List (BitVec 48) := (leWords 8 (imageProg b) (b.drop 64)).map (BitVec.ofNat 48)

def imageConstWords (b : List Byte) : List (BitVec 24) :=
  (leWords 4 (imageConst b) (b.drop (64 + 8 * imageProg b))).map (BitVec.ofNat 24)

def imageBankWords (b : List Byte) : List (BitVec 24) :=
  (leWords 4 (imageBank b) (b.drop (64 + 8 * imageProg b + 4 * imageConst b))).map (BitVec.ofNat 24)

/-- A table with the bank words written to each of the eight port banks (R210). -/
def bankTable (b : List Byte) (t : Tab (BitVec 24)) : Tab (BitVec 24) :=
  (List.range 8).foldl (fun t i => Tab.setAll 0#24 t (i * 0x0C00) (imageBankWords b)) t

/-- Initialise the port banks, 0 above the bank words (R210 third step): the constants stay. -/
def Core.initBanks (c : Core) (b : List Byte) : Core :=
  { c with y := bankTable b (c.y.filter (fun e => decide (0x6000 ≤ e.1))), badY := c.badY.filter (0x6000 ≤ ·) }

/-- Load an image (R210): program, constants and banks; X stays, but for the uncorrectable words found (R213). -/
def Core.load (c : Core) (slot : Nat) (b : List Byte) : Core :=
  { c with
    prog := Tab.setAll 0#48 [] 0 (imageProgWords b)
    y := Tab.setAll 0#24 (bankTable b []) 0x6000 (imageConstWords b)
    x := c.x.filter (fun e => !c.badX.contains e.1)
    badP := [], badX := [], badY := []
    entry := imageEntry b, imageId := Sys2Proof.Machine.imageId b, slot := slot, rewritten := false, state := .idle }

/-- The image of a slot, if one is there (R209). -/
def State.image (s : State) (slot : Nat) : Option (List Byte) := Tab.look s.cfg.images slot

/-- The slot that FpImageMap names for a core (R214). -/
def State.slotOf (s : State) (g : Nat) : Nat := s.conf (cFpImageMap g)

/-- FpEnable of a core in the epoch of slice `n` (R211, R212). -/
def State.fpEnabledAt (s : State) (n g : Nat) : Bool := bit (s.confAt n cFpEnable) g

/-- A core takes its image from its slot: loaded, or without an image when the slot is empty (R209, R212). -/
def State.loadCore (s : State) (g : Nat) : State :=
  let slot := s.slotOf g
  let c := s.core g
  s.setCore g (match s.image slot with
    | some b => c.load slot b
    | none => { c with state := .noImage, slot := slot, rewritten := false, imageId := 0#32 })

/-- Packets that wait for a core that has no image are discarded (R209, R212). -/
def State.flushQueue (s : State) (g : Nat) : State :=
  let c := s.core g
  if c.state = .noImage then
    c.queue.foldl (fun (s : State) k => s.bump (kPortFpOffDiscard k.port)) (s.setCore g { c with queue := [] })
  else s

/-- A core reloads the image that it holds from its slot (R213). -/
def State.reloadCore (s : State) (g : Nat) : State :=
  let c := s.core g
  s.setCore g (match s.image c.slot with
    | some b => c.load c.slot b
    | none => { c with state := .noImage, rewritten := false, imageId := 0#32 })

/-- The port banks of a core are initialised from the image of its slot. -/
def State.initCoreBanks (s : State) (g : Nat) : State :=
  match s.image (s.slotOf g) with
  | some b => s.setCore g ((s.core g).initBanks b)
  | none => s

/-- A pair without an enabled core is powered down and loses its memories (R188); what its status objects show stays (R308), and
a load that waits goes on. -/
def Core.powerDown (c : Core) : Core :=
  { c with prog := [], x := [], y := [], badP := [], badX := [], badY := [], regs := Regs.empty, reloadDue := false,
           reloadNow := false }

/-- Power down the pairs that hold no core that is on (R188): a pair is the cores 2k and 2k + 1. -/
def State.powerPairs (s : State) : State :=
  (List.range 12).foldl (fun s k =>
    if (s.core (2 * k)).state = .off ∧ (s.core (2 * k + 1)).state = .off then
      (s.setCore (2 * k) (s.core (2 * k)).powerDown).setCore (2 * k + 1) (s.core (2 * k + 1)).powerDown
    else s) s

/-! ### The end of a packet (R201 to R205) -/

/-- A hit passes the acceptance horizon of the epoch in force at slice `n`, or is counted as HORIZON (R40, R123). -/
def State.horizonCheck (s : State) (p n : Nat) (t ta : Tw) : State × Bool :=
  if inHorizon (s.confAt n cAcceptPast) (s.confAt n cAcceptFuture) t ta then (s, true)
  else
    let s := s.lose .horizon 1 (sliceOf ta) p
    (s.bump (if twDiff t ta < 0 then kPortHorizonPast p else kPortHorizonFuture p), false)

/-- The time of a feature hit lies in the run (R202). -/
def State.featureInRun (s : State) (t : Tw) : Bool :=
  !before t (sliceStart s.hist.firstRun) &&
    (match s.hist.runStop with | some c => before t (sliceStart c) | none => s.hist.nextSeal.isSome)

/-- A feature hit of a packet (R202, R203). -/
def State.featureHit (s : State) (k : Packet) (tw : Tw) (flags : BitVec 4) (payload : BitVec 20) : State :=
  let s := s.bump64 (kCoreFeatureHits (k.port / 8))
  if !s.featureInRun tw then s.bump (kPortStandstillDiscard k.port)
  else
    let r := s.horizonCheck k.port (sliceOf tw) tw k.ta
    if r.2 then r.1.mergeHit ⟨tw, k.port, k.chan, flags, payload, k.order⟩ k.ta else r.1

/-- A trigger primitive of core `g`: late after the close of the slice that holds its time (R160, R202). -/
def State.primitive (s : State) (g : Nat) (tw : Tw) (cls : Nat) : State :=
  let s := s.bump64 (kCorePrimitives g)
  if s.inRun (sliceOf tw) && sliceLt (sliceOf tw) s.hist.nextClose then s.bump kPrimitiveLate
  else s.raise .feature g cls tw

/-- Send the results of a packet (R201). -/
def State.deliver (s : State) (g : Nat) (k : Packet) : List Result → State
  | [] => s
  | .hit tw fl pl :: rs => State.deliver (s.featureHit k tw fl pl) g k rs
  | .prim tw cls :: rs => State.deliver (s.primitive g tw cls) g k rs

/-! ### Admission (R198, R211) -/

/-- The budget of a packet (R198). -/
def State.packetBudget (s : State) (g : Nat) (k : Packet) : Nat :=
  let n := sliceOf k.tw
  min (s.confAt n (cBudgetBase g) + s.confAt n (cBudgetPerWord g) * k.need) (s.confAt n cQueueLimit)

/-- A packet is counted once as FP_QUEUE (R35, R198). -/
def State.losePacket (s : State) (g : Nat) (k : Packet) : State :=
  ((s.lose .fpQueue 1 (sliceOf k.tw) k.port).bump (kPortFpQueueLoss k.port)).bump (kCoreQueueDrops g)

/-- A load or initialisation of the core is under way. -/
def Core.loading (c : Core) : Bool := decide (c.state = .loading)

/-- A load or initialisation waits for the close of the slice before its commit slice: `loadKind` 1 or 2 (R211). -/
def Core.loadDue (c : Core) : Bool := decide (c.loadKind = 1) || decide (c.loadKind = 2)

/-- A load under way is a reload of R213: no load or initialisation of R211 has begun. -/
def Core.reloading (c : Core) : Bool := c.loading && !(decide (c.loadKind = 3) || decide (c.loadKind = 4))

/-- A commit from configuration `a` to `b` loads core `g` (R211). -/
def coreLoads (a b : Tab Nat) (c : Core) (g : Nat) : Bool :=
  let get := fun (t : Tab Nat) (o : Obj) => Tab.get o.dflt t o.key
  bit (get b cFpEnable) g && (!bit (get a cFpEnable) g || decide (get a (cFpImageMap g) ≠ get b (cFpImageMap g)) || c.rewritten)

/-- A commit to configuration `b` with the bits `bank` of FpBankReset initialises the banks of core `g` (R211, R212). -/
def coreInits (b : Tab Nat) (bank g : Nat) : Bool := bit (Tab.get cFpEnable.dflt b cFpEnable.key) g && bit bank g

/-- The device is in RUN or FENCED. -/
def State.running (s : State) : Bool := decide (s.sys.dev = .run) || decide (s.sys.dev = .fenced)

/-- The commit slice of a pending commit that will load core `g` or initialise its banks in RUN (R211). -/
def State.pendingLoad (s : State) (g : Nat) : Option Nat :=
  match s.cfg.pending with
  | some (c, t) =>
    if s.running && (coreLoads s.cfg.epoch t (s.core g) g || coreInits t (Tab.get 0 t cFpBankReset.key) g) then some c else none
  | none => none

/-- What becomes of a complete packet of slice `n` (R198, R211 to R213). -/
inductive Admit where
  | off | lost | queue
  deriving DecidableEq, Repr

/-- Slice `n` is one of the 64 from slice `j` on. -/
def within64 (j : Option Nat) (n : Nat) : Bool :=
  match j with | some j => sliceLe j n && sliceLt n (sliceAdd j 64) | none => false

/-- Slice `n` does not lie before slice `j`. -/
def fromSlice (j : Option Nat) (n : Nat) : Bool := match j with | some j => sliceLe j n | none => false

def State.admission (s : State) (g : Nat) (k : Packet) (budget : Nat) : Admit :=
  let n := sliceOf k.tw
  let c := s.core g
  let limit := s.confAt n cQueueLimit
  let fits : Admit := if c.pendingBudget + budget ≤ limit then .queue else .lost
  let here : Admit := if c.state = .noImage ∨ c.state = .off then .off else fits
  if !s.fpEnabledAt n g || within64 c.loadFrom n || within64 (s.pendingLoad g) n then .off
  else if c.reloading then .lost
  else if fromSlice (s.pendingLoad g) n then fits
  else
    match c.loadFrom with
    | some j => if sliceLt n j then (if c.loadDue then here else .lost) else if c.loadDue || c.loading then fits else here
    | none => here

/-- A waveform packet is complete (R198). -/
def State.packetDone (s : State) (k : Packet) : State :=
  let g := k.port / 8
  let b := s.packetBudget g k
  match s.admission g k b with
  | .off => s.bump (kPortFpOffDiscard k.port)
  | .lost => s.losePacket g k
  | .queue =>
    let c := s.core g
    let c := { c with queue := c.queue ++ [{ k with budget := b }] }
    (s.setCore g c).raiseStat (kCoreQueueHighWater g) c.pendingBudget

/-! ### Loads in RUN (R211) -/

/-- The load of a core begins: packets of slices before the commit slice that have not run are counted as FP_QUEUE. A core
without an image has no banks to initialise. -/
def State.beginLoad (s : State) (g : Nat) : State :=
  let c := s.core g
  match c.loadFrom with
  | none => s
  | some j =>
    let old := c.queue.filter (fun k => sliceLt (sliceOf k.tw) j)
    let idle := decide (c.loadKind = 2 ∧ (c.state = .noImage ∨ c.state = .off))
    let s := s.setCore g { c with
      state := if idle then c.state else .loading
      loadKind := if idle then 0 else c.loadKind + 2
      queue := c.queue.filter (fun k => !sliceLt (sliceOf k.tw) j) }
    let s := s.flushQueue g
    old.foldl (fun s k => s.losePacket g k) s

/-- No packet of a slice before `j` can reach core `g` any more (R212): none waits, none is incomplete at its ports, and every
hit of such a slice would miss the horizon. -/
def State.coreDone (s : State) (j g : Nat) : Bool :=
  !(s.core g).queue.any (fun k => sliceLt (sliceOf k.tw) j) &&
    !(List.range 8).any (fun i =>
      match (s.port (8 * g + i)).packet with | some k => !k.skip && sliceLt (sliceOf k.tw) j | none => false) &&
    (!s.running || notAfter (sliceStart (j + max (s.confAt j cAcceptPast) 129)) s.now)

/-- What core `g` begins when no packet runs: a core whose enable was cleared goes off when it has handled what lies before the
commit slice (R212); a load begins when the slice before its commit slice has closed (R211); a reload whose boundary has come
begins (R213). -/
def State.tryLoad (s : State) (g : Nat) : State :=
  let c := s.core g
  if c.running.isSome then s
  else
    let s := match c.offFrom with
      | some j =>
        if s.coreDone j g then (s.setCore g { c with state := .off, offFrom := none, loadKind := 0 }).powerPairs else s
      | none => s
    let c := s.core g
    if c.reloadNow && decide (c.state = .idle) then s.setCore g { c with state := .loading, reloadNow := false }
    else
      match c.loadFrom with
      | some j => if c.loadDue && !c.loading && sliceLe j s.hist.nextClose then s.beginLoad g else s
      | none => s

/-- Every core after the close of a slice. -/
def State.tryLoads (s : State) : State := (List.range 24).foldl State.tryLoad s

/-- FP_LOAD_DONE: a load, a bank initialisation or a reload ends, and waiting packets may run (R210, R211, R213). -/
def execFpLoadDone (dt : Nat) (g : CoreId) (s : State) : Host.Outcome State Fault Refusal :=
  let s := s.elapse dt
  let c := s.core g.val
  .next <|
    if c.state ≠ .loading then s
    else if c.loadKind = 4 then
      let s := s.initCoreBanks g.val
      s.setCore g.val { s.core g.val with state := .idle, loadKind := 0 }
    else if c.loadKind = 3 then
      let s := s.loadCore g.val
      (s.setCore g.val { s.core g.val with loadKind := 0, reloadDue := false, reloadNow := false }).flushQueue g.val
    else ((s.reloadCore g.val).flushQueue g.val).tryLoad g.val

/-- An uncorrectable word of a core's memories is found: a reload is due (R213). -/
def Core.upset (c : Core) (space : FpSpace) (addr : Nat) : Core :=
  match space with
  | .p => { c with badP := c.badP ++ [addr], reloadDue := true }
  | .x => { c with badX := c.badX ++ [addr], reloadDue := true }
  | .y => { c with badY := c.badY ++ [addr], reloadDue := true }

/-- FP_UPSET: the scrubber, or a read of the core, finds an error in a word of a memory that is powered: a single-bit error is
corrected and counted in MemCorrected; an uncorrectable one (`double`) makes a reload due (R213). -/
def execFpUpset (dt : Nat) (g : CoreId) (space : FpSpace) (addr : Nat) (double : Bool) (s : State) :
    Host.Outcome State Fault Refusal :=
  let s := s.elapse dt
  let c := s.core g.val
  .next <|
    if c.state = .off then s
    else if double then s.setCore g.val (c.upset space addr)
    else s.bump (kCoreMemCorrected g.val)

/-- FP_RELOAD: at the slice boundary after an upset the core begins to reload its image, when a packet that is running has
completed its run (R213). -/
def execFpReload (dt : Nat) (g : CoreId) (s : State) : Host.Outcome State Fault Refusal :=
  let s := s.elapse dt
  let c := s.core g.val
  .next (if c.reloadDue then (s.setCore g.val { c with reloadDue := false, reloadNow := true }).tryLoad g.val else s)

/-! ### Running a packet (R199, R200, R204) -/

/-- The registers at packet start (R194). -/
def startRegs (c : Core) (k : Packet) (samples : Nat) : Regs :=
  let r := Regs.empty
  { r with
    d := (((r.d.set 0 (BitVec.ofNat 24 samples)).set 1 (BitVec.ofNat 24 k.chan)).set 2 (BitVec.ofNat 24 k.port)).set 3
      (BitVec.ofNat 24 k.words.length)
    pc := c.entry }

/-- A queued packet may start: one of a slice from the commit slice of a load that has not been made waits (R211). -/
def State.startable (s : State) (g : Nat) (k : Packet) : Bool :=
  !fromSlice (s.pendingLoad g) (sliceOf k.tw) && !((s.core g).loadDue && fromSlice (s.core g).loadFrom (sliceOf k.tw))

/-- PACKET_START: the next admitted packet: registers, samples and the preamble, one cycle a word (R190, R194, R200). -/
def execPacketStart (dt : Nat) (g : CoreId) (s : State) : Host.Outcome State Fault Refusal :=
  let s := s.elapse dt
  let c := s.core g.val
  .next <|
    if c.state ≠ .idle then s
    else
      match c.queue.find? (s.startable g.val) with
      | none => s
      | some k =>
        let smp := (s.samplesOf k).map (unpackSample (sampleLayout (s.formatOf k)).2)
        let c := { c with
          state := .busy
          queue := c.queue.erase k
          running := some k
          budget := k.budget - k.words.length
          results := []
          regs := startRegs c k smp.length
          x := Tab.setAll 0#24 c.x 0x7000 smp
          badX := c.badX.filter (fun a => !(decide (0x7000 ≤ a) && decide (a < 0x7000 + smp.length))) }
        (s.setCore g.val c).bump64 (kCoreCyclesUsed g.val) k.words.length

/-- The end of a packet, by DONE or abort: its results are sent, unspent budget is forfeited (R200, R201). -/
def State.endPacket (s : State) (g : Nat) (c : Core) (k : Packet) (results : List Result) : State :=
  let s := s.setCore g { c with state := .idle, running := none, budget := 0, results := [], regs := { c.regs with loops := [] } }
  ((s.bump64 (kCorePacketsDone g)).deliver g k results).tryLoad g

/-- Abort a packet (R204): the results so far stand, and one fallback hit follows them. -/
def State.abortPacket (s : State) (g : Nat) (c : Core) (k : Packet) : State :=
  s.endPacket g c k (c.results ++ [.hit k.tw 0x6#4 (s.fallbackPayload k)])

/-- Abort for a fault (R204): Faults, LastFault and LastFaultPc. -/
def State.abortFault (s : State) (g : Nat) (c : Core) (k : Packet) (code : Nat) : State :=
  let s := ((s.bump (kCoreFaults g)).setStat (kCoreLastFault g) code).setStat (kCoreLastFaultPc g) (c.regs.pc % 0x4000)
  s.abortPacket g c k

/-- What the fetch at the program counter finds, before the budget comparison (R199). -/
inductive Fetch where
  | idle | pcRange | bad | illegal | instr (i : Instr)
  deriving DecidableEq, Repr

def Core.fetch (g : CoreId) (c : Core) : Fetch :=
  if c.state ≠ .busy then .idle
  else if 0x3FFF < c.regs.pc then .pcRange
  else if c.badP.contains c.regs.pc then .bad
  else
    match fpDecode g (Tab.get 0#48 c.prog c.regs.pc) with
    | some i => if loopFits c.regs.pc i then .instr i else .illegal
    | none => .illegal

/-- Spend the cycles of an instruction (R199). -/
def State.spend (s : State) (g : Nat) (i : Instr) : State := s.bump64 (kCoreCyclesUsed g) (fpCost i)

/-- The core after an instruction: where it goes, and what it has left to spend. -/
def FpResult.after (r : FpResult) (i : Instr) : Core :=
  { r.core with regs := afterInstr r.core.regs r.flow, budget := r.core.budget - fpCost i }

/-- Execute instruction `i` on core `g`, if it is the one at the program counter, its cost is left and it reads no
uncorrectable word (R199, R200); LOOP_DEPTH aborts after its cost is charged. -/
def State.fpIssue (s : State) (g : CoreId) (i : Instr) : State :=
  let c := s.core g.val
  match c.running with
  | none => s
  | some k =>
    if c.fetch g = .instr i ∧ fpCost i ≤ c.budget then
      let r := fpEffect i c
      if !r.bad.isEmpty then s
      else
        let s := ((s.spend g.val i).bump (kCoreAccessFaults g.val) r.faults).bump (kCoreEmitOverflow g.val) r.dropped
        match r.flow with
        | .done => s.endPacket g.val (r.after i) k r.core.results
        | .depth => s.abortFault g.val c k 2
        | .fall | .goto _ | .skip _ | .leave _ => s.setCore g.val (r.after i)
    else s

/-- BUDGET_EXHAUSTED: the next instruction costs more than the unspent budget (R199, R204). -/
def execBudgetExhausted (dt : Nat) (g : CoreId) (s : State) : Host.Outcome State Fault Refusal :=
  let s := s.elapse dt
  let c := s.core g.val
  .next <|
    match c.fetch g, c.running with
    | .instr i, some k => if c.budget < fpCost i then (s.bump (kCoreBudgetExceeded g.val)).abortPacket g.val c k else s
    | _, _ => s

/-- PC_RANGE: execution would continue past 0x3FFF (R204). -/
def execPcRange (dt : Nat) (g : CoreId) (s : State) : Host.Outcome State Fault Refusal :=
  let s := s.elapse dt
  let c := s.core g.val
  .next <|
    match c.fetch g, c.running with
    | .pcRange, some k => s.abortFault g.val c k 3
    | _, _ => s

/-- ILLEGAL: an illegal encoding is fetched (R204, R221). -/
def execIllegal (dt : Nat) (g : CoreId) (s : State) : Host.Outcome State Fault Refusal :=
  let s := s.elapse dt
  let c := s.core g.val
  .next <|
    match c.fetch g, c.running with
    | .illegal, some k => s.abortFault g.val c k 1
    | _, _ => s

/-- UNCORRECTABLE: the packet reads an uncorrectable word: a program word as it is fetched, with nothing charged, or an X
or Y word as the instruction executes, its cost charged; a reload is due (R199, R204, R213). -/
def execUncorrectable (dt : Nat) (g : CoreId) (space : FpSpace) (addr : Nat) (s : State) :
    Host.Outcome State Fault Refusal :=
  let s := s.elapse dt
  let c := (s.core g.val).upset space addr
  .next <|
    match c.fetch g, c.running with
    | .bad, some k => if space = .p ∧ addr = c.regs.pc then s.abortFault g.val c k 4 else s
    | .instr i, some k =>
      if fpCost i ≤ c.budget ∧ space ≠ .p ∧ (space, addr) ∈ (fpEffect i c).bad then
        (s.spend g.val i).abortFault g.val c k 4
      else s
    | _, _ => s

end Sys2Proof.Machine
end

