-- ==== Sys2Proof/Machine/Links.lean ====
section
/-! DEFINITION. Ibnor links: bring-up (R86, R87), reception of frames (R88, R89, R105), the capability (R90 to R92),
low power (R93 to R95), loops (R96), and the downlink (R79, R84, R85, R101). The stay link's lanes come up alike (R316). -/

namespace Sys2Proof.Machine

/-! ### State changes of a lane -/

/-- Change the state of a lane; `since` notes when. -/
def State.goTo (s : State) (l : Lane) (st : LinkState) : State :=
  s.setLane l { s.lane l with st := st, since := s.tb.c, goodRun := 0, badMarkers := 0 }

/-- A partial packet is discarded with ProtocolErrors + 1 (R82). -/
def State.breakPacket (s : State) (p : Nat) : State :=
  let x := s.port p
  match x.packet with
  | none => s
  | some _ => (s.setPort p { x with packet := none }).bump (kPortProtocolErrors p)

/-- The port leaves data service: its packet is broken, its held words are gone, its timing is NONE, and the BUSY that it
last sent no longer counts (R82, R102, R116). -/
def State.leaveService (s : State) (l : Lane) : State :=
  match l with
  | .port p =>
    let s := s.breakPacket p.val
    let x := s.port p.val
    s.setPort p.val { x with timing := x.timing.leave, held := [], skip := 0, realign := false, window := [],
                             windowStep := 0, busy := false, busySince := none }
  | .stay _ => s.setLane l { s.lane l with realign := false }

/-- Back to DETECT. -/
def State.toDetect (s : State) (l : Lane) : State := (s.leaveService l).goTo l .detect

/-- Into QUARANTINE; the count of failures restarts (R87, R105). -/
def State.toQuarantine (s : State) (l : Lane) : State :=
  let s := ((s.leaveService l).goTo l .quarantine).laneBump l kPortQuarantineCount
  s.setLane l { s.lane l with fails := 0 }

/-- A bring-up failure (R87): DETECT, or QUARANTINE after BringUpRetries consecutive failures. -/
def State.bringupFails (s : State) (l : Lane) : State :=
  let s := s.laneBump l kPortBringUpFailures
  let n := (s.lane l).fails + 1
  let s := s.setLane l { s.lane l with fails := n }
  if s.conf cBringUpRetries ≤ n then s.toQuarantine l else s.toDetect l

/-- The start slice: the first boundary that follows the entry to ACTIVE and a lead of 64 slices (R98). -/
def State.startSlice (s : State) : Nat := roundUpSlice (s.now + BitVec.ofNat 64 (64 * sliceFu))

/-- Entry of a port to ACTIVE from EXCHANGE (R86, R87, R98, R109, R116); the deciding unit sets the start slice. The last
frame of EXCHANGE is the last one accounted for (R89). -/
def State.portActive (s : State) (p : Nat) : State :=
  let x := s.port p
  let x := { x with st := .active, since := s.tb.c, goodRun := 0, badMarkers := 0, fails := 0, busy := false,
                    busySince := none, window := [], windowStep := 0, packet := none, skip := 0, held := [], markerNo := 0#8,
                    bitsSince := 0, timing := x.timing.active (decide (s.conf (cPortDelayMode p) = 1)) }
  if s.decides then
    let n := s.startSlice
    let s := s.setPort p { x with start := some n }
    if s.forwards then s.say (.start p n) else s
  else s.setPort p x

/-- The partner is heard again (R316, R343 code 0x0806); a unit that had lost it joins anew (R341). -/
def State.partnerFound (s : State) (serial : BitVec 64) : State :=
  let s : State := { s with twin := { s.twin with partnerUp := true, rxSeq := none, unacked := [], txQueue := [],
                                                  rxBytes := [], lastRx := s.tb.c } }
  let s := s.journal 0x0806 srcDevice (jdata [(0, serial.toNat)])
  if s.sys.role = .mizzen ∨ s.twin.ready = 4 then s.startJoin else s

/-- A stay lane is ACTIVE: the stay link hears a partner (R316). -/
def State.stayLaneActive (s : State) (l : Fin 4) (serial : BitVec 64) : State :=
  let x := s.lane (.stay l)
  let s := s.setLane (.stay l) { x with st := .active, since := s.tb.c, goodRun := 0, badMarkers := 0, fails := 0,
                                        bitsSince := 0 }
  let s := s.setStat kPartnerSerialSeen serial.toNat
  if s.twin.partnerUp then s.pump s.twin.txQueue else s.partnerFound serial

/-! ### The receiver: losses, the error window, realignment -/

/-- Lost frames of a port: 33 units each, the frame and its 32 word slots (R35, R108; log entry 12). -/
def State.lostFrames (s : State) (p : Nat) (cause : LossCause) (counter : Nat) (ta : Tw) (n : Nat) : State :=
  (s.bump counter n).lose cause (33 * n) (sliceOf ta) p

/-- The last 1,024 frames with `n` more, errored or not; evaluated in steps of 32 frames (R105, log entry 12). -/
def State.pushWindow (s : State) (p n : Nat) (err : Bool) : State :=
  let x := s.port p
  let w := (List.replicate (min n 1024) err ++ x.window).take 1024
  let s := s.setPort p { x with window := w, windowStep := (x.windowStep + n) % 1024 }
  if x.windowStep / 32 ≠ (x.windowStep + n) / 32 ∧ s.conf cErrorThreshold < w.countP id then s.toQuarantine (.port ⟨p % 192, Nat.mod_lt _ (by decide)⟩)
  else s

/-- A lane receives wire bits up to the end of a frame: the receiver of R75 goes on, and the frame is what it delivers. -/
def State.receive (s : State) (l : Lane) (wire : List Bool) : State × Frame :=
  let r := LineRx.receive (s.lane l).rx wire
  (s.setLane l { s.lane l with rx := r.1 }, frameOf r.2.1 r.2.2)

/-- The delay step at the port's present frame (R117, R118, R329): a unit that decides takes its own and sends it, a
unit that follows takes the forwarded DA, or waits for it. -/
def State.delayStep (s : State) (p : Nat) : State :=
  let x := s.port p
  let k := s.timingConf p
  let t := x.timing.latch k
  if s.decides then
    let r := t.stepOwn k
    let s := (s.setPort p { x with timing := r.1 }).bump (kPortDelayJumps p) (bnat r.2)
    match t.stepDue && s.forwards, r.1.da with
    | true, some da => s.say (.delay p t.f da)
    | _, _ => s
  else if t.waiting.isSome then s.setPort p { x with timing := t }
  else
    match Tab.look t.forwarded t.f with
    | some da => s.setPort p { x with timing := t.takeForwarded t.f da }
    | none =>
      s.setPort p { x with timing := if t.expectsDa then { t with waiting := some t.f } else t }

/-- `n` frame slots of a port pass without words (R89, R117): every step among them takes effect. -/
def State.skipFrames (s : State) (p : Nat) : Nat → State
  | 0 => s
  | n + 1 =>
    let s := s.delayStep p
    let x := s.port p
    State.skipFrames (s.setPort p { x with timing := { x.timing with f := x.timing.f + 1 } }) p n

/-- The number of missed frames (R89): congruent to the sequence difference modulo 1,024 and within ±512 of the bits
received over 2,112; below 0 none is missed. -/
def missedFrames (seq last : BitVec 10) (bits : Nat) : Nat :=
  let r : Int := (seq - last - 1).toNat
  let est : Int := (bits / 2112 : Nat)
  (r + 1024 * ((est + 512 - r) / 1024)).toNat

/-- Realigned (R88, R89): the missed slots are counted under LINK_CRC, and the port is ACTIVE again. -/
def State.realignDone (s : State) (p : Nat) (f : Frame) (ta : Tw) : State :=
  let x := s.port p
  let n := match x.lastSeq with
    | some last => missedFrames f.seq last (x.bitsSince + f.bits)
    | none => 0
  let s := s.setPort p { x with st := .active, since := s.tb.c, realign := false, goodRun := 0, badMarkers := 0,
                                lastSeq := some (f.seq - 1), bitsSince := 0 }
  let s := s.lostFrames p .linkCrc (kPortFramesMissed p) ta n
  let s := s.skipFrames p n
  let x := s.port p
  let s := s.setPort p { x with timing := x.timing.realigned (s.timingConf p).asym }
  s.pushWindow p n true

/-- A failed frame in ACTIVE (R82, R88): counted once, the packet's rest is skipped, and four mismatched markers in a row
lose the alignment. -/
def State.badFrame (s : State) (p : Nat) (f : Frame) (ta : Tw) : State :=
  let s := if f.stuffError then s.lostFrames p .stuffErr (kPortFramesStuff p) ta 1
    else s.lostFrames p .linkCrc (kPortFramesCrc p) ta 1
  let broken := (s.port p).packet.isSome
  let s := s.breakPacket p
  let s := s.delayStep p
  let x := s.port p
  let bad := if frameMarked f then 0 else x.badMarkers + 1
  let x := { x with badMarkers := bad, skip := if broken then 1 else if x.skip = 0 then 2 else x.skip,
                    lastSeq := x.lastSeq.map (· + 1), bitsSince := 0, timing := { x.timing with f := x.timing.f + 1 } }
  let s := s.setPort p x
  let s := s.pushWindow p 1 true
  if (s.port p).st = .active ∧ 4 ≤ bad then
    let x := s.port p
    s.setPort p { x with st := .lock, since := s.tb.c, realign := true, goodRun := 0, badMarkers := 0,
                         timing := x.timing.hold }
  else s

/-- A good frame in ACTIVE: counted, and the delay step of its frame count taken (R117). -/
def State.goodFrame (s : State) (p : Nat) (f : Frame) : State :=
  let s := (s.bump64 (kPortFramesGood p)).delayStep p
  let x := s.port p
  s.setPort p { x with badMarkers := 0, lastSeq := some f.seq, bitsSince := 0 }

/-- The end of a frame in ACTIVE: the frame count and the error window. -/
def State.endFrame (s : State) (p : Nat) : State :=
  let x := s.port p
  if x.st = .active ∨ x.st = .idle then
    (s.setPort p { x with timing := { x.timing with f := x.timing.f + 1 } }).pushWindow p 1 false
  else s

/-- Frames in LOCK: four consecutive good ones align the lane (R86). True when the frame is to be taken as in ACTIVE. -/
def State.lockFrame (s : State) (l : Lane) (f : Frame) (ta : Tw) : State × Bool :=
  let x := s.lane l
  if !frameSound f then (s.setLane l { x with goodRun := 0, bitsSince := x.bitsSince + f.bits }, false)
  else if x.goodRun + 1 < 4 then
    (s.setLane l { x with goodRun := x.goodRun + 1, bitsSince := x.bitsSince + f.bits }, false)
  else if x.realign then
    match l with
    | .port p =>
      let s := s.realignDone p.val f ta
      (s, decide ((s.port p.val).st = .active))
    | .stay _ => (s.goTo l .active, true)
  else
    let s := s.goTo l .exchange
    (s.setLane l { s.lane l with txSeq := 0#10, capsSent := 0, capOk := false, lastSeq := some f.seq }, false)

/-- A frame in EXCHANGE is accounted for: a good one by its sequence, a failed one as the next (R89). -/
def State.exchangeFrame (s : State) (l : Lane) (f : Frame) : State :=
  let x := s.lane l
  s.setLane l { x with lastSeq := if frameSound f then some f.seq else x.lastSeq.map (· + 1) }

/-- IDLE (R95): four good TRAIN frames in a row align the receiver; after them the first other frame, or the first failed
one, ends IDLE and is taken as in ACTIVE. -/
def State.idleFrame (s : State) (p : Nat) (f : Frame) : State × Bool :=
  let x := s.port p
  if !frameSound f && decide (x.goodRun < 4) then (s.setPort p { x with goodRun := 0 }, false)
  else if frameGood f 2 then (s.setPort p { x with goodRun := x.goodRun + 1 }, false)
  else if 4 ≤ x.goodRun then
    (s.setPort p { x with st := .active, since := s.tb.c, goodRun := 0, badMarkers := 0, bitsSince := 0,
                          timing := x.timing.idleExit }, true)
  else (s, false)

/-- Count compared bits and bits in error of a loop (R96). -/
def State.loopCount (s : State) (p bits errors : Nat) : State :=
  (s.bump64 (kPortLoopBits p) bits).bump64 (kPortLoopErrors p) errors

/-- The sequence of the pattern frame that a received frame is compared with (R96, log entry 13). A near-end loop returns
every frame: a good one says its sequence, a failed one is the next. A far-end loop returns the frames sent, with FILL frames
of the partner between them: only a sequence that is sent and not yet returned is compared. -/
def Port.loopSeq (x : Port) (f : Frame) : Option (BitVec 10) :=
  let next := (x.lastSeq.map (· + 1)).getD f.seq
  if x.loop = 3 then (if (f.seq - next).toNat < (x.txSeq - next).toNat then some f.seq else none)
  else some (if frameSound f then f.seq else next)

/-- Bits received in a loop (R96, log entry 13): PRBS31 bits as they stand on the wire, or pattern frames, FILL with words 0. -/
def State.loopFrame (s : State) (p : Nat) (wire : List Bool) (f : Frame) : State :=
  let x := s.port p
  if x.loop ≠ 3 ∧ s.conf (cPortLoopPattern p) = 0 then
    let r := x.prbs.check wire
    (s.setPort p { x with prbs := r.1 }).loopCount p r.2.1 r.2.2
  else
    match x.loopSeq f with
    | some q => (s.setPort p { x with lastSeq := some q }).loopCount p 2112 (fillDiff f q)
    | none => s

/-- A frame of a stay lane in ACTIVE: four mismatched markers in a row lose the alignment (R88, R316). -/
def State.stayActiveFrame (s : State) (l : Fin 4) (f : Frame) : State × Bool :=
  let x := s.lane (.stay l)
  let bad := if frameMarked f then 0 else x.badMarkers + 1
  let x := { x with badMarkers := bad }
  (s.setLane (.stay l) (if 4 ≤ bad then { x with st := .lock, since := s.tb.c, realign := true, goodRun := 0, badMarkers := 0 }
    else x), frameSound f)

/-- The front of the receiver for every frame of a lane; true when a good frame is to be taken in ACTIVE. -/
def State.frameIn (s : State) (l : Lane) (sub : Nat) (wire : List Bool) (f : Frame) : State × Bool :=
  let ta := s.nowAt sub
  let activeFrame : State → State × Bool := fun s =>
    match l with
    | .port p =>
      if frameSound f then (s.goodFrame p.val f, true) else (s.badFrame p.val f ta, false)
    | .stay n => s.stayActiveFrame n f
  match (s.lane l).st with
  | .lock =>
    let r := s.lockFrame l f ta
    if r.2 then activeFrame r.1 else r
  | .active => activeFrame s
  | .idle =>
    match l with
    | .port p =>
      let r := s.idleFrame p.val f
      if r.2 then activeFrame r.1 else r
    | .stay _ => (s, false)
  | .exchange => (s.exchangeFrame l f, false)
  | .quarantine => (if frameGood f 1 then s.laneBump l kPortQuarantineFrames else s, false)
  | .loop =>
    match l with
    | .port p => (s.loopFrame p.val wire f, false)
    | .stay _ => (s, false)
  | _ => (s, false)

/-- A frame without words for the data path in ACTIVE: it ends a DATA sequence (R82), and `err` protocol errors count. -/
def State.plainFrame (s : State) (l : Lane) (err : Nat) : State :=
  let s := s.laneBump l kPortProtocolErrors err
  match l with
  | .port p =>
    let s := s.breakPacket p.val
    (s.setPort p.val { s.port p.val with skip := 0 }).endFrame p.val
  | .stay _ => s

/-- A frame of a kind that a lane of the stay link does not take in its phase, or of no kind that it takes, is discarded and
counted (R80, R92, R316). -/
def State.stayStray (s : State) (l : Lane) (f : Frame) : State :=
  let bad := match (s.lane l).st with
    | .exchange => frameSound f && decide (f.kind.toNat ≠ 2 ∧ f.kind.toNat ≠ 3)
    | .active => frameSound f && decide (2 ≤ f.kind.toNat)
    | _ => frameSound f && decide (4 ≤ f.kind.toNat)
  s.laneBump l kPortProtocolErrors (bnat bad)

/-! ### Capability (R90 to R92, R316) -/

/-- The first word that breaks the capability layout, as CapRefused shows it (R91). -/
def capMalformed (w : List Word) : Option Nat :=
  [0, 1, 2].findSome? (fun i =>
    let x := w.getD i 0#64
    if wbits x 61 3 ≠ 6 ∨ wbits x 58 3 ≠ i then some (i * 64 + 0x3F) else none)

/-- The refusal of a capability, if any (R91). Of several faults CapRefused shows a malformed word first, then the fields in
their order (DESIGN CHOICE, log entry 48). -/
def capRefusal (w : List Word) : Option Nat :=
  let w0 := w.getD 0 0#64
  let w1 := w.getD 1 0#64
  match capMalformed w with
  | some c => some c
  | none =>
    if wbits w0 54 4 ≠ 1 ∧ wbits w0 54 4 ≠ 2 then some 1
    else if wbits w0 41 13 < 1 ∨ 4096 < wbits w0 41 13 then some 2
    else if 10240000 < wbits w1 34 24 then some 0x41
    else if wbits w1 18 16 < 1 ∨ 4096 < wbits w1 18 16 then some 0x42
    else none

/-- The negotiated capability of a port (R91): a version 1 partner has no flags and a BUSY response of 1,000 ticks. -/
def Port.withCap (x : Port) (w : List Word) : Port :=
  let w0 := w.getD 0 0#64
  let w1 := w.getD 1 0#64
  let v := wbits w0 54 4
  { x with
    version := v
    channels := wbits w0 41 13
    flags := if v = 1 then 0 else wbits w0 40 1 + 2 * wbits w0 39 1 + 4 * wbits w0 38 1
    turnaround := wbits w1 34 24
    busyResponse := if v = 1 then 1000 else wbits w1 18 16
    ident := BitVec.ofNat 64 (wbits (w.getD 2 0#64) 0 58)
    capOk := true }

/-- The serial number that a stay lane's capability carries (R316). -/
def staySerial (w : List Word) : BitVec 64 :=
  BitVec.ofNat 64 (wbits (w.getD 1 0#64) 26 32 + 2 ^ 32 * wbits (w.getD 2 0#64) 26 32)

/-- A stay lane accepts its partner (R316). -/
def State.stayAccepts (s : State) (w : List Word) : Bool :=
  (capMalformed w).isNone && decide (wbits (w.getD 0 0#64) 54 4 = 2) && decide (wbits (w.getD 0 0#64) 53 1 = 1) &&
    (decide (s.conf cPartnerSerial = 0) || decide (s.conf cPartnerSerial = (staySerial w).toNat))

/-- A CAP frame in EXCHANGE (R90, R91, R316): accepted, or a bring-up failure with CapRefused. A lane is ACTIVE once it has
also sent 3 CAP frames. -/
def State.capFrame (s : State) (l : Lane) (f : Frame) : State :=
  match l with
  | .port p =>
    match capRefusal f.words with
    | some c => (s.setStat (kPortCapRefused p.val) c).bringupFails l
    | none =>
      let x := (s.port p.val).withCap f.words
      let s := (s.setPort p.val x).setStat (kPortCapRefused p.val) 0
      if 3 ≤ x.capsSent then s.portActive p.val else s
  | .stay n =>
    if s.stayAccepts f.words then
      let x := { s.lane l with capOk := true, ident := staySerial f.words }
      let s := s.setLane l x
      if 3 ≤ x.capsSent then s.stayLaneActive n x.ident else s
    else s.bringupFails l

/-! ### The commands of bring-up -/

/-- DETECT_ENERGY: energy for 100 µs without break (R86). -/
def execDetectEnergy (dt : Nat) (l : Lane) (s : State) : Host.Outcome State Fault Refusal :=
  let s := s.elapse dt
  .next (if (s.lane l).st = .detect then s.goTo l .train else s)

/-- CDR_LOCK: LOCK when the frequency lies within ±200 ppm, otherwise TRAIN fails (R74, R86, R104). -/
def execCdrLock (dt : Nat) (l : Lane) (ppm : Int) (s : State) : Host.Outcome State Fault Refusal :=
  let s := s.elapse dt
  .next <|
    if (s.lane l).st = .train then
      if |ppm| ≤ 200 then
        let s := s.goTo l .lock
        s.setLane l { s.lane l with realign := false, bitsSince := 0 }
      else s.bringupFails l
    else s

/-- The timeout of a state of bring-up, in µs (R107). -/
def State.bringupLimit (s : State) : LinkState → Option Nat
  | .train => some (s.conf cTrainTimeout)
  | .lock => some (s.conf cLockTimeout)
  | .exchange => some (s.conf cExchangeTimeout)
  | _ => none

/-- BRINGUP_TIMEOUT: TRAIN, LOCK or EXCHANGE has lasted its timeout (R87, R88). -/
def execBringupTimeout (dt : Nat) (l : Lane) (s : State) : Host.Outcome State Fault Refusal :=
  let s := s.elapse dt
  .next <|
    match s.bringupLimit (s.lane l).st with
    | some us => if usFu us ≤ s.since (s.lane l).since then s.bringupFails l else s
    | none => s

/-- SIGNAL_LOSS: no energy for more than 1 µs (R87, R88, R95). -/
def execSignalLoss (dt : Nat) (l : Lane) (sub : Nat) (s : State) : Host.Outcome State Fault Refusal :=
  let s := s.elapse dt
  .next <|
    match (s.lane l).st with
    | .train | .lock | .exchange => s.bringupFails l
    | .active =>
      match l with
      | .port p => (s.lostFrames p.val .linkCrc (kPortFramesCrc p.val) (s.nowAt sub) 1).toDetect l
      | .stay _ => s.toDetect l
    | _ => s

/-- A good frame of a reserved kind adds 1 to ProtocolErrors wherever the lane has an aligned receiver in service or in
bring-up (R80); in a loop received frames do not count (R97). -/
def State.reservedCounts (s : State) (l : Lane) (f : Frame) : Bool :=
  frameSound f && decide (4 ≤ f.kind.toNat) &&
    [LinkState.lock, .exchange, .active, .idle, .quarantine].contains (s.lane l).st

/-- A frame with good CRC on a lane of the stay link, aligned or in alignment, shows that the partner is there (R316). -/
def State.heard (s : State) (l : Lane) : State :=
  match l with
  | .port _ => s
  | .stay _ =>
    if [LinkState.lock, .exchange, .active].contains (s.lane l).st then
      { s with twin := { s.twin with lastRx := s.tb.c } }
    else s

/-- The wire bits of a command that brings one frame of a kind (log entry 48): a sound frame of another kind is not that
command's, and only the receiver has gone on; a failed frame has no kind and is taken. -/
def State.frameRow (s : State) (l : Lane) (wire : List Bool) (own : Nat → Bool) (take : State → Frame → State) : State :=
  let r := s.receive l wire
  let s := if frameSound r.2 then r.1.heard l else r.1
  if frameSound r.2 && !own r.2.kind.toNat then s else take s r.2

/-- A frame whose words the data path does not take: in ACTIVE a CAP frame adds 1 to ProtocolErrors (R92). -/
def State.wordlessFrame (s : State) (l : Lane) (sub : Nat) (wire : List Bool) (f : Frame) : State :=
  let s := match l with
    | .port _ => if s.reservedCounts l f then s.laneBump l kPortProtocolErrors else s
    | .stay _ => s.stayStray l f
  let r := s.frameIn l sub wire f
  if r.2 then r.1.plainFrame l (match l with | .port _ => bnat (decide (f.kind.toNat = 3)) | .stay _ => 0) else r.1

/-- UPLINK_TRAIN: a TRAIN frame (R79, R86, R95). -/
def execUplinkTrain (dt : Nat) (l : Lane) (sub : Nat) (wire : List Bool) (s : State) : Host.Outcome State Fault Refusal :=
  .next ((s.elapse dt).frameRow l wire (· == 2) (fun s f => s.wordlessFrame l sub wire f))

/-- UPLINK_CAP: taken in EXCHANGE; in ACTIVE discarded with ProtocolErrors + 1 (R91, R92). -/
def execUplinkCap (dt : Nat) (l : Lane) (sub : Nat) (wire : List Bool) (s : State) : Host.Outcome State Fault Refusal :=
  .next <| (s.elapse dt).frameRow l wire (· == 3) (fun s f =>
    if (s.lane l).st = .exchange then
      let s := s.exchangeFrame l f
      if frameGood f 3 then s.capFrame l f else s
    else s.wordlessFrame l sub wire f)

/-- UPLINK_FILL: words are ignored (R79). -/
def execUplinkFill (dt : Nat) (l : Lane) (sub : Nat) (wire : List Bool) (s : State) : Host.Outcome State Fault Refusal :=
  .next ((s.elapse dt).frameRow l wire (· == 0) (fun s f => s.wordlessFrame l sub wire f))

/-- RESERVED_KIND_FRAME: discarded after a good CRC with ProtocolErrors + 1 (R80). -/
def execReservedKindFrame (dt : Nat) (l : Lane) (sub : Nat) (wire : List Bool) (s : State) :
    Host.Outcome State Fault Refusal :=
  .next ((s.elapse dt).frameRow l wire (4 ≤ ·) (fun s f => s.wordlessFrame l sub wire f))

/-- IDLE_EXIT_TIMEOUT: not aligned within 20 µs of the first returning energy (R95). -/
def execIdleExitTimeout (dt : Nat) (p : PortId) (s : State) : Host.Outcome State Fault Refusal :=
  let s := s.elapse dt
  let x := s.port p.val
  .next (if x.st = .idle ∧ x.goodRun < 4 then s.bringupFails (.port p) else s)

/-- QUARANTINE_HOLD_EXPIRY: QuarantineHold seconds have passed; 0 never (R105, R316). -/
def execQuarantineHoldExpiry (dt : Nat) (l : Lane) (s : State) : Host.Outcome State Fault Refusal :=
  let s := s.elapse dt
  let x := s.lane l
  let hold := s.conf cQuarantineHold
  .next (if x.st = .quarantine ∧ hold ≠ 0 ∧ usFu (1000000 * hold) ≤ s.since x.since then s.toDetect l else s)

/-! ### The downlink -/

/-- The BUSY flag of a port: second reef or STANDSTILL in service, always in QUARANTINE (R29, R101, R105). -/
def State.busyFlag (s : State) (x : Port) : Bool :=
  match x.st with
  | .active | .lock | .idle => decide (2 ≤ s.hist.reef) || decide (s.sys.dev = .standstill)
  | .quarantine => true
  | _ => false

/-- The kind of downlink traffic by state (R86): none, TRAIN, CAP, or DATA and FILL with or without markers. -/
inductive DownKind where
  | none | train | cap | service (markers : Bool)
  deriving DecidableEq, Repr

def Port.downKind (x : Port) : DownKind :=
  match x.st with
  | .disabled | .deep => .none
  | .detect | .train => .train
  | .lock => if x.realign then .service true else .train
  | .exchange => .cap
  | .active | .idle | .quarantine => .service true
  | .loop => .service false

/-- The capability words that a lane of the stay link sends: version 2, TwinMode, the serial number (R316). -/
def State.stayCapWords (s : State) : List Word :=
  [BitVec.ofNat 64 (6 * 2 ^ 61 + 2 * 2 ^ 54 + bnat s.paired * 2 ^ 53),
   BitVec.ofNat 64 (6 * 2 ^ 61 + 2 ^ 58 + Config.serial.toNat % 2 ^ 32 * 2 ^ 26),
   BitVec.ofNat 64 (6 * 2 ^ 61 + 2 * 2 ^ 58 + Config.serial.toNat / 2 ^ 32 * 2 ^ 26)]

/-- The downlink capability words (R90). -/
def capWords (p : Nat) : List Word :=
  [BitVec.ofNat 64 (6 * 2 ^ 61 + 2 * 2 ^ 54 + p * 2 ^ 46),
   BitVec.ofNat 64 (6 * 2 ^ 61 + 2 ^ 58 + Config.serial.toNat % 2 ^ 32 * 2 ^ 26),
   BitVec.ofNat 64 (6 * 2 ^ 61 + 2 * 2 ^ 58)]

/-- A command word (R84). -/
def commandWord (c : BitVec 61) : Word := BitVec.ofNat 64 (2 ^ 61 + c.toNat)

/-- The word of a command that the device itself sends: 0 LOOP_ON, 1 LOOP_OFF, 2 DEEP_ENTER (R84). -/
def ownCommand (op : Nat) : Word := commandWord (BitVec.ofNat 61 (op * 2 ^ 56))

/-- A DATA or FILL frame (R85, R101, R109): a marker in word 0 by the schedule, then the device's own commands, then queued
commands, then fill. DATA when it carries a command, otherwise FILL (log entry 13). The frames of a far-end loop carry no
queued command, as they are its pattern (R96). -/
def State.serviceFrame (s : State) (p : PortId) (markers : Bool) (ts : Tw) : State :=
  let x := s.port p
  let marked := markers && decide (x.txSeq.toNat % s.conf cMarkerInterval = 0)
  let mk := (if marked then [markerWord x.markerNo ts] else []) ++ x.own.map ownCommand
  let cmds := if x.st = .quarantine ∨ (x.st = .loop ∧ x.loop = 3) then [] else x.commands.take (32 - mk.length)
  let busy := s.busyFlag x
  let x := { x with
    commands := x.commands.drop cmds.length
    own := []
    markerNo := if marked then x.markerNo + 1 else x.markerNo
    busy := busy
    busySince := if busy then (if x.busy then x.busySince else some ts) else none
    timing := if marked then { x.timing with sent := (⟨x.markerNo, ts, false⟩ :: x.timing.sent).take 256 }
      else x.timing }
  let data := !cmds.isEmpty || !(s.port p).own.isEmpty
  (s.setPort p x).sendFrame (.port p) busy (bnat data) (fillWords (mk ++ cmds.map commandWord))

/-- One more CAP frame has been sent; the third one completes EXCHANGE where the partner is accepted (R90, R316). -/
def State.capSent (s : State) (l : Lane) : State :=
  let x := { s.lane l with capsSent := (s.lane l).capsSent + 1 }
  let s := s.setLane l x
  if x.capOk && decide (3 ≤ x.capsSent) then
    match l with
    | .port p => s.portActive p.val
    | .stay n => s.stayLaneActive n x.ident
  else s

/-- The frame that a port begins by its state; a command of the device's own goes out in whatever state has a downlink (R84,
R94, R97). -/
def State.portSends (s : State) (p : PortId) (ts : Tw) : State :=
  let x := s.port p
  match x.downKind with
  | .none => s
  | .train => if x.own.isEmpty then s.sendFrame (.port p) false 2 (fillWords []) else s.serviceFrame p false ts
  | .cap => (s.sendFrame (.port p) false 3 (fillWords (capWords p.val))).capSent (.port p)
  | .service m => s.serviceFrame p m ts

/-- The frame that a lane of the stay link begins: in bring-up TRAIN or CAP; in ACTIVE a FILL frame with the link-control
word (R316, R317). -/
def State.staySends (s : State) (n : Fin 4) : State :=
  let l := Lane.stay n
  match (s.lane l).downKind with
  | .none => s
  | .train => s.sendFrame l false 2 (fillWords [])
  | .cap => (s.sendFrame l false 3 (fillWords s.stayCapWords)).capSent l
  | .service _ => s.sendFrame l false 0 (fillWords [s.linkControl])

/-- DOWNLINK_FRAME: the device begins one frame on a port or on a lane of the stay link; `sub` is where bit 63 of word 0
leaves the ball (R85, R86, R90, R109, R316). -/
def execDownlinkFrame (dt : Nat) (l : Lane) (sub : Nat) (s : State) : Host.Outcome State Fault Refusal :=
  let s := s.elapse dt
  .next <|
    if s.sys.dev = .fault then s
    else match l with
    | .port p => s.portSends p (s.nowAt sub)
    | .stay n => s.staySends n

/-! ### DEEP (R93, R94) -/

def State.group (s : State) (lg : Nat) : LaneGroup := Tab.get LaneGroup.empty s.groups lg

def State.setGroup (s : State) (lg : Nat) (x : LaneGroup) : State :=
  { s with groups := Tab.set LaneGroup.empty s.groups lg x }

/-- The ports of a lane group (R73). -/
def groupPorts (lg : Nat) : List Nat := (List.range 8).map (fun i => 8 * lg + i)

/-- PortEnable of a port (R106). -/
def State.portEnabled (s : State) (p : Nat) : Bool := bit (s.conf (cPortEnable (p / 32))) (p % 32)

/-- UplinkDelay (R115, R121): what the round trip leaves beside the downlink delay. -/
def State.uplinkDelay (s : State) (p : Nat) : Int :=
  let t := (s.port p).timing
  t.shown - roundEven (t.shown - s.confInt 32 (cPortAsymmetry p)) 2

/-- The delays of a port keep their values while its lane group is off (R308). -/
def State.keepDelays (s : State) (p : Nat) : State :=
  let t := (s.port p).timing
  ((s.setStat (kPortAppliedDelay p) (rawInt (t.da.getD 0))).setStat (kPortRoundTrip p) (rawInt t.shown)).setStat
    (kPortUplinkDelay p) (rawInt (s.uplinkDelay p))

/-- A port enters DEEP. -/
def State.portDeep (s : State) (p : Nat) : State :=
  if (s.port p).st = .disabled then s
  else
    let s := (s.breakPacket p).keepDelays p
    let x := s.port p
    s.setPort p { x with st := .deep, since := s.tb.c, timing := x.timing.leave, held := [], skip := 0, realign := false,
                         window := [], windowStep := 0, start := none, own := [], busy := false, busySince := none }

/-- A port of the group still receives until its commit slice has sealed (R99). -/
def State.groupReceives (s : State) (lg : Nat) : Bool := (groupPorts lg).any (fun p => (s.port p).disableAt.isSome)

/-- DEEP_POWER_DOWN: 10 µs after DEEP_ENTER the downlinks of the group stop and it powers down (R94), but not before the
ports that the same commit disables have done with their slices (R99). -/
def execDeepPowerDown (dt : Nat) (lg : CoreId) (s : State) : Host.Outcome State Fault Refusal :=
  let s := s.elapse dt
  let g := s.group lg.val
  .next <|
    if g.phase = 1 ∧ usFu 10 ≤ s.since g.since ∧ !s.groupReceives lg.val then
      ((groupPorts lg.val).foldl State.portDeep s).setGroup lg.val ⟨2, s.tb.c⟩
    else s

/-- LANE_GROUP_PLL_LOCK: the group is up, and its enabled ports start again from DETECT (R94). -/
def execLaneGroupPllLock (dt : Nat) (lg : CoreId) (s : State) : Host.Outcome State Fault Refusal :=
  let s := s.elapse dt
  .next <|
    if (s.group lg.val).phase = 3 then
      let s := s.setGroup lg.val LaneGroup.empty
      (groupPorts lg.val).foldl (fun s p =>
        if s.portEnabled p && decide ((s.port p).st = .deep) then
          s.setPort p { s.port p with st := .detect, since := s.tb.c, goodRun := 0, badMarkers := 0 }
        else s) s
    else s

end Sys2Proof.Machine
end

