-- ==== Sys2Proof/Machine/TwinOps.lean ====
section
/-! DEFINITION. What the data path does with a partner: forwarded triggers and placements (R327, R328, R341), the digest
comparison (R333, R334), and the start and the end of a join (R341). -/

namespace Sys2Proof.Machine

/-- A record or context is still held as hollow (R341). -/
def State.holdsHollow (s : State) : Bool :=
  s.trig.contexts.any (fun c => c.2.hollow) || s.trig.records.any (fun r => r.2.hollow)

/-- The joiner becomes READY (R341 step 5). -/
def State.joinCheck (s : State) : State :=
  match s.twin.joinAt, s.twin.snapshot with
  | some j, some p =>
    if s.twin.joining && s.twin.joinState && !s.holdsHollow && sliceLe j p.oldest &&
        decide (s.conf cReadyAfter ≤ s.twin.matchRun) then
      ({ s with twin := { s.twin with ready := 2, joining := false, joinAt := none } }).journal 0x080A srcDevice
        (jdata [(0, s.slice)])
    else s
  | _, _ => s

/-- A comparison that matches (R333): after ReadyAfter of them in a row a DIVERGED unit is READY again, or JOINING while it
still holds hollow records (R320). -/
def State.digestMatch (s : State) : State :=
  let s : State := { s with twin := { s.twin with mismatchRun := false, matchRun := s.twin.matchRun + 1 } }
  if s.twin.ready = 3 ∧ s.conf cReadyAfter ≤ s.twin.matchRun then s.setReady (if s.twin.joining then 1 else 2) else s

/-- A comparison that fails (R333): the first slice of a run of mismatches is journalled. -/
def State.digestFail (s : State) (n : Nat) : State :=
  let s := (s.bump kDigestMismatch).setStat kLastMismatchSlice n
  let s := if s.twin.mismatchRun then s else s.journal 0x0807 srcDevice (jdata [(0, n)])
  { s with twin := { s.twin with mismatchRun := true, matchRun := 0, ready := 3 } }

/-- Compare the digest of slice `n` as soon as both exist, and the record sequence (R333, R334); a unit that still waits for
the state of a join keeps to that join. -/
def State.compareDigest (s : State) (n : Nat) : State :=
  match Tab.look s.twin.digests n, s.indexed n with
  | some d, some e =>
    let own := Tab.look s.twin.seqs n
    let s : State := { s with twin := { s.twin with
      digests := Tab.drop s.twin.digests n
      seqs := s.twin.seqs.filter (fun x => !sliceLe x.1 n) } }
    let s := s.bump64 kDigestCompared
    let s := if d.1 = e.digest then s.digestMatch else s.digestFail n
    let s := if own ≠ some d.2 ∧ own ≠ none ∧ (s.twin.joining → s.twin.joinState) then (s.journal 0x0808 srcDevice (jdata [(0, n)])).startJoin
      else s
    s.joinCheck
  | _, _ => s

/-- A forwarded trigger as the follower handles it at trigger time `t` (R327, R328). -/
def fwdToTrig (t : Tw) (i : Nat) (f : FwdTrigger) : Trig :=
  ⟨if f.host then .host else .alert, f.srcNum, f.cls, t, f.wstart, f.wend, f.tag, none, i, f.alertSeq⟩

/-- The latest trigger time that the entries of a list, which are in the order of R162, leave to an entry before them: a
host request has its window start, an alert lies in its window (R164). -/
def fwdBound (n : Nat) (l : List FwdTrigger) : Option Int :=
  (l.map (fun f => twDiff (if f.host then f.wstart else f.wend) (sliceStart n))).min?

/-- The trigger time of a forwarded alert, which SLICE does not carry, as an offset from the start of slice `n`: a free
multiple of 1,024 fu from its window start on (R164), no earlier than the entry before it, at `prev`, and no later than those
that follow allow (log entry 6). -/
def fwdTime (n : Nat) (free : BitVec 64) (prev : Option Int) (f : FwdTrigger) (rest : List FwdTrigger) : Int :=
  let a := twDiff f.wstart (sliceStart n)
  let lo := max 0 (((prev.getD a) - a + 1023) / 1024)
  let hi := (min (twDiff f.wend (sliceStart n)) ((fwdBound n rest).getD (twDiff f.wend (sliceStart n))) - a) / 1024
  a + 1024 * (lo + (free.toNat : Int) % (max 1 (hi - lo + 1)))

/-- The forwarded triggers of slice `n` in their order: with each alert, the last accepted sequence of its key slot (R175,
R327). -/
def State.takeForwarded (s : State) (n : Nat) : List FwdTrigger → List Trig → State × List Trig
  | [], acc => (s, acc)
  | f :: fs, acc =>
    let prev := acc.getLast?.map (fun t => twDiff t.time (sliceStart n))
    let at_ := if f.host then f.wstart else sliceStart n + BitVec.ofInt 64 (fwdTime n s.freeVal prev f fs)
    let t := fwdToTrig at_ acc.length f
    let s := s.nextFree
    let s : State := if f.host then s
      else { s with trig := { s.trig with alertSeq := Tab.set 0#64 s.trig.alertSeq f.srcNum f.alertSeq } }
    State.takeForwarded s n fs (acc ++ [t])

/-- A hollow context, with no history and no pin (R341). -/
def State.hollowContext (s : State) (cls binding rank cont : Nat) (number : BitVec 32) (ws we : Tw) (first : Option Nat) :
    Context :=
  ⟨cls, ws, we, number, cont, derivedTrig .tin 0 cls ws, 1, binding, rank, false, false, true, 0, s.epochAt binding, first⟩

/-- One placement of the partner, applied to hollow contexts in slice `n` (R341). -/
def State.applyPlacement (n : Nat) (s : State) (p : Placement) : State :=
  let k := s.cls p.cls
  match p.outcome with
  | 16 => { s with trig := { s.trig with refused := s.trig.refused ++ [(n, p.rank, p.cls)] } }
  | 1 =>
    match k.latest.bind (·.ctx) with
    | some x => (match s.context x with | some c => s.endAt x c p.wend | none => s)
    | none => s
  | 2 => s
  | _ =>
    let x := lowestFree 0 s.trig.contexts
    let s := (s.addContext (s.hollowContext p.cls n p.rank 0 p.recordNumber p.wstart p.wend none)).setCls p.cls
      { k with latest := some ⟨p.wstart, p.wend, some x, p.recordNumber⟩, next := p.recordNumber + 1 }
    s.clip x

/-- The placements that came with a slice. -/
def State.applyPlacements (s : State) (n : Nat) (l : List Placement) : State :=
  if s.twin.joining then (l.filter (fun p => decide (p.cls < 64))).foldl (State.applyPlacement n) s else s

/-- The counters of the two units that agree while ReadyState is READY (R346): of the reef ladder and of each class. The state
of a join carries them (log entry 38). -/
def agreedCounters : List Nat :=
  [kReef1Entries, kReef2Entries, kReef3Entries, kSlicesAtReef1, kSlicesAtReef2, kSlicesAtReef3, kSlicesDropped] ++
    (List.range 64).flatMap (fun k => [kClsTriggersSeen k, kClsSourceBlocked k, kClsPrescaled k, kClsOpened k, kClsMerged k,
      kClsAbsorbed k, kClsOverflow k, kClsBadWindow k, kClsTooOld k, kClsOutOfOrder k, kClsContextRefused k,
      kClsRecordsClosed k, kClsRecordsReleased k, kClsNotRun k])

/-- The reef level of the last slice indexed, and the levels decided since, in order of the slices: their share of the
counters of R151 is not part of the state at the start of the join slice. -/
def State.reefSince (s : State) : List Nat :=
  ((s.indexed s.hist.newest).map (·.level)).getD 0 ::
    ((s.hist.decided.insertionSort (fun a b => sliceLe a.1 b.1 = true)).map Prod.snd)

/-- A counter of R151 as it stood before the levels `l` behind their first were decided: slices at level `k`, or entries to it. -/
def reefBefore (l : List Nat) (key v : Nat) : Nat :=
  let entries_ := fun k => (l.zip l.tail).countP (fun p => decide (p.1 < k ∧ k ≤ p.2))
  let slices := fun k => l.tail.countP (fun x => decide (k ≤ x))
  let d := if key = kReef1Entries then entries_ 1 else if key = kReef2Entries then entries_ 2
    else if key = kReef3Entries then entries_ 3 else if key = kSlicesAtReef1 then slices 1
    else if key = kSlicesAtReef2 then slices 2 else if key = kSlicesAtReef3 then slices 3 else 0
  v - d

/-- The state at the start of the join slice, for the joiner (R341 step 3). -/
def State.joinStateMsg (s : State) : JoinState :=
  { recordSeq := s.trig.recordSeq
    classes := s.trig.classes.map (fun e =>
      ⟨e.1, e.2.next, e.2.prescale, e.2.latest.map (fun l => ⟨l.ls, l.le, l.number, l.ctx.isSome⟩)⟩)
    deal := s.host.deal
    lists := s.trig.mults.map (fun e => (e.1, e.2.last, e.2.list))
    hollow := s.trig.records.map (fun e =>
      ⟨some e.2.seq, e.2.trig.cls, e.2.number, e.2.cont, 0, e.2.binding, e.2.wstart, e.2.wend, e.2.queue,
        some e.2.firstQueue⟩) ++
      s.trig.contexts.map (fun e =>
        ⟨none, e.2.cls, e.2.number, e.2.cont, e.2.rank, e.2.binding, e.2.wstart, e.2.wend, 0, e.2.firstQueue⟩)
    counts := ((kReefLevel, s.reefSince.headD 0) ::
      agreedCounters.map (fun k => (k, reefBefore s.reefSince k (s.count k)))).filter (fun e => decide (e.2 ≠ 0)) }

/-- One hollow record or context that the joiner takes over (R341); a context of the latest window of its class is that
window's. -/
def State.takeHollow (s : State) (h : HollowItem) : State :=
  match h.seq with
  | some q =>
    let n := (sliceDiff (sliceOf (h.wend - 1)) (sliceOf h.wstart)).toNat + 1
    let t := derivedTrig .tin 0 h.cls h.wstart
    let r : Record := ⟨q, h.wstart, h.wend, t, 0#16, n, 1, h.number, h.cont, h.binding, s.cfg.number, 0, [], 0, none, h.queue,
      h.firstQueue.getD h.queue, h.binding, s.now, false, false, true, false, [], 0#64⟩
    let x := s.queue h.queue
    (s.setQueue h.queue { x with line := x.line ++ [q.toNat] }).setRecord q.toNat r
  | none =>
    let x := lowestFree 0 s.trig.contexts
    let k := s.cls h.cls
    let s := s.addContext (s.hollowContext h.cls h.binding h.rank h.cont h.number h.wstart h.wend h.firstQueue)
    s.setCls h.cls { k with latest := k.latest.map (fun l =>
      if l.ctx.isSome ∧ l.number = h.number then { l with ctx := some x } else l) }

/-- The joiner takes over the state at the start of the join slice (R341 step 3). A window whose context is open names entry
3,072, which is none, until `takeHollow` finds its context. -/
def State.takeJoinState (s : State) (j : JoinState) : State :=
  let cls := (j.classes.filter (fun c => decide (c.cls < 64))).foldl (fun (t : Tab ClassRec) c =>
    Tab.set ClassRec.empty t c.cls
      ⟨c.prescale, c.latest.map (fun w => ⟨w.ls, w.le, if w.isOpen then some 3072 else none, w.number⟩), c.nextNumber⟩) []
  let mults := j.lists.foldl (fun (t : Tab Mult) l => Tab.set Mult.empty t l.1 ⟨l.2.2, l.2.1⟩) []
  let dealt := j.deal.foldl (fun (t : Tab Nat) d => Tab.set 0 t d.1 d.2) []
  let s := s.trig.contexts.foldl (fun (s : State) e => s.dropContext e.1) s
  let s : State := { s with
    trig := { s.trig with recordSeq := j.recordSeq, classes := cls, mults := mults, contexts := [], records := [] }
    host := { s.host with deal := dealt, queues := s.host.queues.map (fun e => (e.1, { e.2 with line := [] })) }
    twin := { s.twin with joinState := true, ready := 1 } }
  let count := fun k => ((j.counts.find? (fun e => e.1 = k)).map Prod.snd).getD 0
  let s := agreedCounters.foldl (fun (s : State) k => s.setStat k (count k)) s
  let s : State := { s with hist := { s.hist with reef := count kReefLevel } }
  (j.hollow.filter (fun h => decide (h.cls < 64 ∧ h.queue < 16384))).foldl State.takeHollow s

end Sys2Proof.Machine
end

