-- ==== Sys2Proof/Machine/Slices.lean ====
section
/-! DEFINITION. The life of a slice: seal (R130, R149), close (R132, R151, R162), indexing (R22, R144, R176), the final
count of its stragglers (R135), the loss log (R153), and the loss of an HBM controller (R155). -/

namespace Sys2Proof.Machine

/-! ### Seal -/

/-- A port whose disable waits for the seal of its commit slice goes out of service (R99). -/
def State.disableSealed (s : State) (n : Nat) : State :=
  (s.ports.filter (fun e => decide (e.2.disableAt = some n))).foldl (fun s e =>
    let p := e.1
    let s := (s.leaveService (.port ⟨p % 192, Nat.mod_lt _ (by decide)⟩))
    let x := s.port p
    s.setPort p { x with st := .disabled, since := s.tb.c, disableAt := none, start := none, goodRun := 0,
                         badMarkers := 0 }) s

/-- Slice `n` seals at `t`: a unit that decides takes the reef level and, with a partner, forwards it (R149, R321, R328). -/
def State.sealSlice (s : State) (n : Nat) (t : Tw) : State :=
  let s : State := { s with hist := { s.hist with
    seals := Tab.put s.hist.seals n t, lastSeal := some t, nextSeal := some (sliceAdd n 1) } }
  let s := if s.decides then s.decideReef n else s
  let s : State := if s.forwards then s.say (.slice n s.hist.reef (s.forwardList n) s.twin.placed) else s
  let s : State := { s with twin := { s.twin with placed := [] } }
  s.disableSealed n

/-- Slice `n` belongs to the run: it lies before its STANDSTILL commit (R29). -/
def State.runHas (s : State) (n : Nat) : Bool :=
  match s.hist.runStop with | some c => sliceLt n c | none => true

/-- SLICE_SEAL: the next slice has reached its seal (R130). -/
def execSliceSeal (dt : Nat) (s : State) : Host.Outcome State Fault Refusal :=
  let s := s.elapse dt
  .next <|
    match s.hist.nextSeal with
    | none => s
    | some n =>
      let t := s.sealOf n
      if s.runHas n && notAfter t s.now then s.sealSlice n t else s

/-! ### Close -/

/-- The close time of slice `n`: seal(n) + 2 slices (R132). -/
def State.closeTime (s : State) (n : Nat) : Tw := s.sealOf n + 0x200000#64

/-- Slice `n` is written at its close: it is not at third reef, was not dropped for want of a page, and fits (R137, R148,
R151). -/
def State.writes (s : State) (n level : Nat) : Bool :=
  decide (level < 3) && (Tab.look s.hist.full n).isNone &&
    decide (8 * (Tab.get [] s.hist.buckets n).length ≤ s.headroom)

/-- The triggers of slice `n` at its close: those bound to it with those of the multiplicity units over its hits, and those
forwarded (R159, R161, R327). -/
def State.closeTriggers (s : State) (n : Nat) (hits : List Hit) (fwd : List FwdTrigger) : State × List Trig × List Trig :=
  let m := s.multUnits n hits
  let f := m.1.takeForwarded n fwd []
  (f.1, Tab.get [] f.1.trig.bound n ++ m.2, f.2)

/-- First reef at the close of slice `n`: undelivered records of expendable classes are released (R151). -/
def State.firstReef (s : State) (n level : Nat) : State :=
  if 1 ≤ level ∧ s.decides then
    s.releaseExpendable ((s.confAt n cReef1Headroom + s.confAt n cHeadroomHysteresis) * 1048576) s.trig.records
  else s

/-- The slice goes to the log, or is dropped (R132 step 3, R137, R148, R151). -/
def State.putSlice (s : State) (n level : Nat) (written : Bool) (hits : List Hit) (bad : List Nat) : State :=
  if written then s.writeSlice n level (hits.map Hit.word) bad
  else
    match Tab.look s.hist.full n with
    | some k => s.dropSlice n level k
    | none => ((s.loseHits n hits.length).bump64 kSlicesDropped).dropSlice n level hits.length

/-- Slice `n` closes at reef level `level` (R132): triggers and their pins, the reef action, the write or the drop. -/
def State.closeSlice (s : State) (n level : Nat) (fwd : List FwdTrigger) (pl : List Placement) (corrected : Nat)
    (bad : List Nat) : State :=
  let s := s.resetPrescale n
  let hits := sortHits (Tab.get [] s.hist.buckets n)
  let written := s.writes n level
  let r := s.closeTriggers n (if written then hits else []) fwd
  let s := r.1
  let head := if written then s.hist.head + hits.length else s.hist.head
  let s := (s.handleAll n (s.oldestFor head n) r.2.1 r.2.2).applyPlacements n pl
  let s := s.firstReef n level
  let s := (s.putSlice n level written hits bad).bump kMergeCorrected corrected
  let s : State := { s with
    hist := { s.hist with nextClose := sliceAdd n 1, seals := Tab.drop s.hist.seals n,
                          decided := Tab.drop s.hist.decided n }
    trig := { s.trig with bound := Tab.drop s.trig.bound n }
    twin := { s.twin with slices := Tab.drop s.twin.slices n } }
  s.tryLoads

/-- The joiner does its first close after the state of the join has arrived (R341 step 3). -/
def State.joinHolds (s : State) : Bool := s.twin.joining && s.twin.joinAt.isSome && !s.twin.joinState &&
  (match s.twin.joinAt with | some j => sliceLe j s.hist.nextClose | none => false)

/-- Slice `n` may close: it is sealed, and seal(n) + 2 slices has come (R132). -/
def State.closeDue (s : State) (n : Nat) : Bool :=
  s.hist.nextSeal.isSome && (Tab.look s.hist.seals n).isSome && notAfter (s.closeTime n) s.now && !s.joinHolds

/-- SLICE_CLOSE: the next slice closes with the level decided here, or with the SLICE of the partner (R132, R329);
`badWords` are the positions in it of uncorrectable merge-buffer words (R138). -/
def execSliceClose (dt : Nat) (corrected : Nat) (badWords : List Nat) (s : State) : Host.Outcome State Fault Refusal :=
  let s := s.elapse dt
  let n := s.hist.nextClose
  .next <|
    if s.closeDue n then
      match Tab.look s.hist.decided n, Tab.look s.twin.slices n with
      | some level, _ => s.closeSlice n level [] [] corrected badWords
      | none, some m => (s.setReef n m.1 0).closeSlice n m.1 m.2.1 m.2.2 corrected badWords
      | none, none => s
    else s

/-- MIZZEN_WAIT_EXPIRY: SLICE has not come within MizzenWait slices after the close time: the unit closes the slice with
its own decision and without forwarded triggers (R329). -/
def execMizzenWaitExpiry (dt : Nat) (s : State) : Host.Outcome State Fault Refusal :=
  let s := s.elapse dt
  let n := s.hist.nextClose
  .next <|
    if s.closeDue n && (Tab.look s.hist.decided n).isNone && (Tab.look s.twin.slices n).isNone &&
        notAfter (s.closeTime n + BitVec.ofNat 64 (s.conf cMizzenWait * sliceFu)) s.now then
      let s := (s.decideReef n).bump kUnsyncedSlices
      s.closeSlice n s.hist.reef [] [] 0 []
    else s

/-! ### Indexing -/

/-- The run tail ends: merge, trigger engine and host DMA are idle, ports that wait for it are disabled (R29, R99), and a unit
that decided without being mainmast decides no more, as it runs no more (R321). -/
def State.endRun (s : State) : State :=
  let s : State := { s with hist := { s.hist with nextSeal := none, seals := [], decided := [] },
                            trig := { s.trig with bound := [] }
                            twin := { s.twin with deciding := s.twin.deciding && decide (s.sys.role = .mainmast) } }
  (s.ports.filterMap (fun e => e.2.disableAt)).foldl State.disableSealed s

/-- The entry of slice `n` stands in the index (R22, R144, R146). -/
def State.putIndex (s : State) (n : Nat) (e : IndexEntry) : State :=
  let s : State := { s with hist := { s.hist with
    index := Tab.put s.hist.index (s.indexSlot n) e
    badIndex := s.hist.badIndex.filter (· ≠ s.indexSlot n)
    written := Tab.drop s.hist.written n
    newest := n
    nextIndex := sliceAdd n 1
    buckets := Tab.drop s.hist.buckets n
    full := Tab.drop s.hist.full n } }
  { s with hist := { s.hist with oldest := s.oldestFor s.hist.head n } }

/-- What a twin does at the indexing of slice `n`: the digest goes to the partner, or is compared with the partner's, and
a joining partner gets the state at the start of the join slice (R318, R333, R341). -/
def State.twinIndexed (s : State) (n : Nat) (e : IndexEntry) : State :=
  let s := if s.forwards then s.say (.digest n e.digest s.trig.recordSeq) else s
  let s := if s.forwards && decide (s.twin.joinAt = some (sliceAdd n 1)) then s.say (.join (.state s.joinStateMsg)) else s
  if s.twin.following then
    ({ s with twin := { s.twin with
      seqs := Tab.put (s.twin.seqs.filter (fun x => sliceLt (sliceAdd n (sliceMod - 8192)) x.1)) n s.trig.recordSeq } }
      ).compareDigest n
  else s

/-- SLICE_INDEXED: the log write of the oldest closed slice has ended (R22, R144, R176). -/
def execSliceIndexed (dt : Nat) (s : State) : Host.Outcome State Fault Refusal :=
  let s := s.elapse dt
  let n := s.hist.nextIndex
  .next <|
    match Tab.look s.hist.written n with
    | none => s
    | some e =>
      let s := ((s.putIndex n e).resetDeal n).closeRecords n
      let s := s.twinIndexed n e
      if s.hist.nextSeal.isSome ∧ s.hist.runStop = some (sliceAdd n 1) then s.endRun else s

/-! ### Stragglers and losses -/

/-- The start of the slice from which no straggler of slice `n` can arrive (R123, R135). -/
def State.finalTime (s : State) (n : Nat) : Tw := sliceStart (n + 1 + max (s.confAt n cAcceptPast) 129)

/-- STRAGGLER_COUNT_FINAL: the count of the next slice is final and goes into its index entry (R135, R144). -/
def execStragglerCountFinal (dt : Nat) (s : State) : Host.Outcome State Fault Refusal :=
  let s := s.elapse dt
  let n := s.hist.nextFinal
  .next <|
    if !sliceLt n s.hist.nextIndex || !notAfter (s.finalTime n) s.now then s
    else
      let k := Tab.get 0 s.hist.stragglers n
      let index := match Tab.look s.hist.index (s.indexSlot n) with
        | some e => if e.slice = n then Tab.put s.hist.index (s.indexSlot n) { e with stragglers := min k 65535 } else s.hist.index
        | none => s.hist.index
      { s with hist := { s.hist with
        index := index, stragglers := Tab.drop s.hist.stragglers n, nextFinal := sliceAdd n 1 } }

/-- LOSS_LOG_WRITE: the arrival slice of the gathered losses has ended (R153). -/
def execLossLogWrite (dt : Nat) (s : State) : Host.Outcome State Fault Refusal :=
  let s := s.elapse dt
  .next (if s.hist.losses.isEmpty || !sliceLt s.hist.lossSlice s.slice then s else s.flushLosses)

/-! ### Loss of an HBM controller (R155) -/

/-- The stack of a 256-byte unit of the linear space (R142): bit 5 of its pseudo-channel. -/
def stackOf (u : Nat) : Nat :=
  bnat (bit u 5 ^^ bit u 11 ^^ bit u 17 ^^ bit u 23)

/-- The ranges of log words that open records and contexts still need (R155). -/
def State.neededWords (s : State) : List (Nat × Nat) :=
  (s.trig.contexts.filterMap (fun c => if c.2.hollow then none else some (c.2.pin, s.hist.head))) ++
    s.trig.records.filterMap (fun r => r.2.pin.map (fun p => (p, s.firstWord (sliceOf r.2.wstart) + r.2.words)))

/-- The blocks of word ranges that lay on a stack, without repeats, as positions since the start of the run. -/
def blocksOn (stack : Nat) (w : Nat) (l : List (Nat × Nat)) : List Nat :=
  (l.flatMap (fun r => ((List.range ((r.2 + 31) / 32 - r.1 / 32)).map (fun i => r.1 / 32 + i)).filter
    (fun b => stackOf (b % (w / 32)) = stack))).dedup

/-- Move a position of the log that held `w` words before the head `h` to the new log (log entry 16). -/
def movePos (w h p : Nat) : Nat := p + w - (h + 31) / 32 * 32

/-- The history restarts on the surviving stack (R155, log entry 16): half of the words, the head at word 0, the index
empty, and the words that open records need kept where the surviving stack holds them. -/
def State.degrade (s : State) (stack : Nat) : State :=
  let w := s.logWords
  let h := s.hist.head
  let lost := blocksOn stack w s.neededWords
  let s := lost.foldl (fun s b => s.countBlock (b % (w / 32)) (s.slice) true) s
  let mv := movePos w h
  let log := s.hist.log.foldl (fun (t : Tab Word) e =>
    let back := (h + w - 1 - e.1) % w
    if back < h ∧ back < w / 2 then Tab.set 0#64 t (mv (h - 1 - back) % (w / 2)) e.2 else t) []
  let owners := s.hist.owners.foldl (fun (t : Tab Nat) e =>
    let back := (h + w - 1 - 32 * e.1) % w
    if back < h ∧ back < w / 2 then Tab.put t (mv (h - 1 - back) % (w / 2) / 32) e.2 else t) []
  let n := s.slice
  let s := s.setStat kHbmDegraded 1
  let s : State := { s with
    hist := { s.hist with
      log := log, owners := owners, head := w, poisoned := lost.map (fun b => mv (32 * b) % (w / 2) / 32)
      counted := lost.map (fun b => mv (32 * b) % (w / 2) / 32)
      index := s.hist.index.foldl (fun (t : Tab IndexEntry) e =>
        Tab.put t (e.2.slice % 16777216) { e.2 with first := mv e.2.first }) []
      indexOld := [], badIndex := []
      written := s.hist.written.map (fun e => (e.1, { e.2 with first := mv e.2.first }))
      stragHead := s.hist.stragHead % 4194304, lossHead := s.hist.lossHead % 4194304, firstRun := n, oldest := n }
    trig := { s.trig with
      contexts := s.trig.contexts.map (fun c => (c.1, { c.2 with pin := mv c.2.pin }))
      records := s.trig.records.map (fun r => (r.1, { r.2 with pin := r.2.pin.map mv, reads := r.2.reads.map mv })) }
    sys := { s.sys with degradeDue := none } }
  s.journal 0x0401 srcDevice (jdata [(0, stack)])

/-- HBM_DEGRADE: the slice boundary after the failure of one controller has come (R155). -/
def execHbmDegrade (dt : Nat) (s : State) : Host.Outcome State Fault Refusal :=
  let s := s.elapse dt
  .next <|
    match s.sys.degradeDue with
    | some b => if sliceLe b s.slice ∧ s.count kHbmDegraded = 0 then s.degrade (bnat (s.sys.hbmFailed.getLsbD 1)) else s
    | none => s

end Sys2Proof.Machine
end

