-- ==== Sys2Proof/Machine/HostPort.lean ====
section
/-! DEFINITION. The host port (09_host_port.md): interrupts (R258), queues and doorbells (R242 to R246, R260), record bytes
(R179 to R182), transfers (R247 to R257), and what interrupts them (R259, R261). -/

namespace Sys2Proof.Machine

/-! ### Interrupts (R258, R272) -/

/-- An entry of the MSI-X table after a reset: address and data 0, masked (PCI Express; log entry 8). -/
def msixReset : BitVec 128 := 1#128 <<< 96

/-- Interrupt messages may be sent (R253, R259). -/
def State.canSignal (s : State) : Bool := s.delivers && s.hostReady

/-- A vector is masked (R258, log entry 8). -/
def State.vectorMasked (s : State) (v : Nat) : Bool := (Tab.get msixReset s.host.msix v).getLsbD 96

/-- Send the message of a vector, which clears its pending bit, or hold it pending while the vector is masked (R258). -/
def State.sendMsix (s : State) (v : Nat) : State :=
  if s.vectorMasked v then
    { s with host := { s.host with msixPending := (v :: s.host.msixPending).dedup } }
  else
    (({ s with host := { s.host with msixPending := s.host.msixPending.filter (· ≠ v) } } : State).bump64
      kHostInterruptsSent).emit (.msix v)

/-- Send the messages that are pending for vectors that are not masked, where messages may be sent (R258). -/
def State.sendPending (s : State) : State :=
  if s.canSignal then (s.host.msixPending.filter (fun v => !s.vectorMasked v)).foldl State.sendMsix s else s

/-- The condition of a queue's message (R258). -/
def State.signalDue (s : State) (q : Queue) : Bool :=
  q.intr && q.armed && (decide (q.modCount ≤ q.unsignalled) ||
    (decide (1 ≤ q.unsignalled) && decide (usFu q.modTime ≤ s.since q.firstAt)))

/-- Send the message of a queue when its condition holds (R258). -/
def State.signal (s : State) (q : Nat) : State :=
  let x := s.queue q
  if s.canSignal && s.signalDue x then (s.setQueue q { x with armed := false, unsignalled := 0 }).sendMsix x.vector else s

/-- The mailbox's message, when it is armed and unread slots exist (R272). -/
def State.mailboxSignal (s : State) : State :=
  if s.canSignal && s.ctl.armed && decide (s.ctl.respTail ≠ s.ctl.respHead) then
    ({ s with ctl := { s.ctl with armed := false } } : State).sendMsix (s.imm cMailboxVector)
  else s

/-- Lines, pending messages, queue messages and the mailbox are looked at again: the unit delivers, or the link came back
(R254, R258, R272). -/
def State.resumeHost (s : State) : State :=
  let s := (s.settle s.lines).sendPending
  ((s.host.queues.map Prod.fst).foldl State.signal s).mailboxSignal

/-! ### Accesses -/

/-- BAR0 and BAR2 act: from STANDSTILL or FAULT on (R259, R420). -/
def State.barOpen (s : State) : Bool := decide (s.sys.dev ≠ .powered) && decide (s.sys.dev ≠ .boot)

def State.badAccess (s : State) : State := s.bump kHostBadAccess

/-- Regions of BAR0 and BAR2 (R240, R241, R271): start, size, read-only. -/
def bar0Regions : List (Nat × Nat × Bool) :=
  [(0x0, 0x38, true), (0x10000, 0x4000, false), (0x14000, 0x4000, true), (0x100000, 0x100000, false),
   (0x200000, 0x100000, false), (0x300000, 0x8000, false), (0x308000, 0x100, true), (0x400000, 0x300000, false),
   (0x800000, 0x300000, true), (0xC00000, 0x30000, true)]

def bar2Regions : List (Nat × Nat × Bool) :=
  [(0x0, 0x10000, false), (0x10000, 0x20000, true), (0x30000, 8, false), (0x30008, 8, true), (0x30010, 8, false),
   (0x30018, 8, true), (0x40000, 0xC0000, true)]

/-- An access that R239 or R264 counts in BadAccess. -/
def isBadAccess (bar : Nat) (write : Bool) (offset size : Nat) : Bool :=
  let regions := if bar = 0 then bar0Regions else bar2Regions
  if bar = 4 then write
  else if !(decide (size = 4) || decide (size = 8)) || decide (offset % size ≠ 0) then true
  else
    match regions.find? (fun r => decide (r.1 ≤ offset ∧ offset < r.1 + r.2.1)) with
    | none => true
    | some r => write && (r.2.2 || (decide (bar = 0 ∧ r.1 = 0x100000) && decide (32 ≤ offset % 64)))

/-- The BAR4 window lies beyond the single-stack history (R306): a read returns 0 and counts in BadAccess. -/
def State.bar4Beyond (s : State) : Bool := decide (s.count kHbmDegraded = 1) && decide (95 < s.imm cBar4Base)

/-- BAD_ACCESS: an access of a wrong size, alignment or offset, a write to a read-only region (R239, R264), or a read of BAR4
beyond the single-stack history (R306). -/
def execBadAccess (dt : Nat) (bar : Nat) (write : Bool) (offset size : Nat) (s : State) : Host.Outcome State Fault Refusal :=
  let s := s.elapse dt
  let bad := isBadAccess bar write offset size || (decide (bar = 4) && !write && s.bar4Beyond)
  .next (if s.barOpen && bad then s.badAccess else s)

/-! ### Queues (R242, R243, R260) -/

/-- The first check of R243 that fails. -/
def Queue.check (q : Queue) : Nat :=
  if q.descBase.toNat % 4096 ≠ 0 ∨ q.complBase.toNat % 4096 ≠ 0 then 1
  else if q.descLog2 < 6 ∨ 16 < q.descLog2 ∨ q.complLog2 < 6 ∨ 16 < q.complLog2 then 1
  else if 2047 < q.vector then 2
  else if q.modCount < 1 then 5
  else 0

/-- A DISABLED queue with ENABLE set (R243). -/
def Queue.enabled (q : Queue) : Queue :=
  match q.check with
  | 0 => { q with state := .active, enable := true, error := 0, descHead := 0, descTail := 0, complTail := 0, complHead := 0,
                  complSeq := q.startSeq, armed := false, unsignalled := 0, fetched := [] }
  | e => { q with enable := false, error := e }

/-- An ACTIVE queue, or one in ERROR, with ENABLE cleared (R244, R260). -/
def Queue.disabled (q : Queue) : Queue :=
  match q.state with
  | .active => if q.transfer.isSome then { q with state := .draining, enable := false }
    else { q with state := .disabled, enable := false, fetched := [] }
  | .error => { q with state := .disabled, enable := false, fetched := [] }
  | .disabled | .draining => { q with enable := false }

/-- A write of the Control byte (R242, R243, R260). -/
def State.controlWrite (s : State) (q : Nat) (v : BitVec 8) : State :=
  let x := { s.queue q with intr := v.getLsbD 1 }
  let x := if v.getLsbD 0 then (if x.state = .disabled then x.enabled else x) else x.disabled
  ((s.setQueue q x).settle [q]).signal q

/-- QUEUE_ENABLE: a write of Control that sets ENABLE (R243). -/
def execQueueEnable (dt : Nat) (q : QueueId) (control : BitVec 8) (s : State) : Host.Outcome State Fault Refusal :=
  let s := s.elapse dt
  .next (if s.barOpen then s.controlWrite q.val control else s)

/-- QUEUE_DISABLE: a write of Control that clears ENABLE (R260). -/
def execQueueDisable (dt : Nat) (q : QueueId) (control : BitVec 8) (s : State) : Host.Outcome State Fault Refusal :=
  let s := s.elapse dt
  .next (if s.barOpen then s.controlWrite q.val control else s)

/-- Bytes 0 to 27 of an entry. -/
def Queue.entry (q : Queue) : List Byte :=
  leBytes 8 q.descBase.toNat ++ leBytes 8 q.complBase.toNat ++ leBytes 1 q.descLog2 ++ leBytes 1 q.complLog2 ++
    leBytes 2 q.vector ++ leBytes 2 q.modCount ++ leBytes 2 q.modTime ++ leBytes 4 q.startSeq.toNat

/-- An entry with other bytes 0 to 27. -/
def Queue.withEntry (q : Queue) (b : List Byte) : Queue :=
  { q with descBase := BitVec.ofNat 64 (leAt b 0 8), complBase := BitVec.ofNat 64 (leAt b 8 8), descLog2 := leAt b 16 1,
           complLog2 := leAt b 17 1, vector := leAt b 18 2, modCount := leAt b 20 2, modTime := leAt b 22 2,
           startSeq := BitVec.ofNat 32 (leAt b 24 4) }

/-- Bytes `new` written over `b` at `off`. -/
def overlay (b new : List Byte) (off : Nat) : List Byte := b.take off ++ new ++ b.drop (off + new.length)

/-- A write of 4 bytes of a queue-table entry (R242). -/
def State.queueWrite4 (s : State) (q off : Nat) (v : List Byte) : State :=
  let x := s.queue q
  if 32 ≤ off then s.badAccess
  else if off = 28 then s.controlWrite q (v.headD 0#8)
  else if x.state = .disabled then s.setQueue q (x.withEntry (overlay x.entry v off))
  else s.badAccess

/-- QUEUE_TABLE_WRITE: an aligned write of 4 or 8 bytes of an entry; 8 bytes act on both halves in turn, and one access
adds at most 1 to BadAccess (R239, R242). -/
def execQueueTableWrite (dt : Nat) (q : QueueId) (offset size : Nat) (value : BitVec 64) (s : State) :
    Host.Outcome State Fault Refusal :=
  let s := s.elapse dt
  let b := leBytes size value.toNat
  .next <|
    if !s.barOpen then s
    else if isBadAccess 0 true (0x100000 + 64 * q.val + offset) size || decide (64 ≤ offset) then s.badAccess
    else if size = 4 then s.queueWrite4 q.val offset b
    else if offset = 24 then
      let ok := decide ((s.queue q.val).state = .disabled)
      let s := if ok then s.queueWrite4 q.val 24 (b.take 4) else s.badAccess
      s.queueWrite4 q.val 28 (b.drop 4)
    else if (s.queue q.val).state = .disabled then
      (s.queueWrite4 q.val offset (b.take 4)).queueWrite4 q.val (offset + 4) (b.drop 4)
    else s.badAccess

/-! ### Doorbells (R245) -/

/-- DESC_TAIL: the DescTail doorbell (R245). -/
def execDescTail (dt : Nat) (q : QueueId) (value : BitVec 32) (s : State) : Host.Outcome State Fault Refusal :=
  let s := s.elapse dt
  let x := s.queue q.val
  let i := value.toNat % 65536
  .next <|
    if !s.barOpen || decide (x.state ≠ .active) then s
    else if x.descs ≤ i then s.badAccess
    else
      let y := { x with descTail := i }
      (s.setQueue q.val { y with fetched := y.fetched.take y.posted }).settle [q.val]

/-- The ComplHead doorbell with or without ARM (R245, R258): an index that is out of range is ignored. -/
def State.complBell (s : State) (q : Nat) (value : BitVec 32) : State :=
  let x := s.queue q
  let i := value.toNat % 65536
  if !s.barOpen || decide (x.state ≠ .active) then s
  else
    let bad := decide (x.compls ≤ i)
    let x := if bad then x else { x with complHead := i }
    let s := s.setQueue q { x with armed := x.armed || value.getLsbD 31 }
    (((if bad then s.badAccess else s).settle [q])).signal q

/-- COMPL_HEAD: the ComplHead doorbell (R245). -/
def execComplHead (dt : Nat) (q : QueueId) (value : BitVec 32) (s : State) : Host.Outcome State Fault Refusal :=
  .next ((s.elapse dt).complBell q.val value)

/-- COMPL_ARM: the ComplHead doorbell with ARM set (R258). -/
def execComplArm (dt : Nat) (q : QueueId) (value : BitVec 32) (s : State) : Host.Outcome State Fault Refusal :=
  .next ((s.elapse dt).complBell q.val (value ||| 0x80000000#32))

/-! ### Transfers that end without a completion entry (R244, R259, R261) -/

/-- A transfer ends without its completion entry: the record is counted as QUEUE_FULL, and AbortedTransfers counts (R261). -/
def State.abortTransfer (s : State) (q : Nat) : State :=
  let x := s.queue q
  match x.transfer with
  | none => s
  | some t =>
    let y := { x with transfer := none, state := if x.state = .draining then .disabled else x.state }
    let s := s.setQueue q y
    ((s.recordFull t.seq.toNat q)).bump kHostAbortedTransfers

/-- Every transfer ends (R259, R261). -/
def State.abortTransfers (s : State) : State :=
  ((s.host.queues.filter (fun e => e.2.transfer.isSome)).map Prod.fst).foldl State.abortTransfer s

/-! ### Descriptors (R244) -/

/-- The descriptor that 16 bytes of host memory hold (R9, R244). -/
def descOf (b : List Byte) : Desc :=
  ⟨BitVec.ofNat 64 (leAt b 0 8), BitVec.ofNat 32 (leAt b 8 4), BitVec.ofNat 32 (leAt b 12 4)⟩

/-- A descriptor keeps the layout of R244. -/
def descOk (d : Desc) : Bool :=
  decide (d.addr.toNat % 64 = 0 ∧ d.len.toNat % 64 = 0 ∧ 64 ≤ d.len.toNat ∧ d.len.toNat ≤ 16777216)

/-- A queue enters ERROR (R244): a transfer under way ends without a completion entry (log entry 19). -/
def State.queueError (s : State) (q code : Nat) : State :=
  let s := s.abortTransfer q
  let x := s.queue q
  (s.setQueue q { x with state := .error, error := code, fetched := [] }).settle [q]

/-- DESCRIPTOR_READ_DONE: the 16 bytes of the next posted descriptor have been read; none stands for an error completion
(R244, R245). -/
def execDescriptorReadDone (dt : Nat) (q : QueueId) (d : Option (List Byte)) (s : State) : Host.Outcome State Fault Refusal :=
  let s := s.elapse dt
  let x := s.queue q.val
  .next <|
    if !s.canSignal || decide (x.state ≠ .active) || decide (x.posted ≤ x.fetched.length) then s
    else
      match d with
      | none => (s.bump kHostDescReadErrors).queueError q.val 4
      | some b =>
        let d := descOf b
        if descOk d then (s.setQueue q.val { x with fetched := x.fetched ++ [d] }).settle [q.val] else s.queueError q.val 3

/-! ### Record bytes (R179 to R182) -/

/-- The 64 bytes of a record header (R179). -/
def Record.header (r : Record) : List Byte :=
  leBytes 8 r.seq.toNat ++ leBytes 8 r.wstart.toNat ++ leBytes 8 r.wend.toNat ++ leBytes 8 r.trig.time.toNat ++
    leBytes 1 r.trig.cls ++ leBytes 1 r.trig.source.num ++ leBytes 2 r.flags.toNat ++ leBytes 2 r.covered ++
    leBytes 2 r.count ++ leBytes 4 r.number.toNat ++ leBytes 2 r.cont ++ leBytes 2 r.trig.srcNum ++ leBytes 6 r.binding ++
    leBytes 2 0 ++ leBytes 4 r.epoch.toNat ++ leBytes 4 r.trig.tag.toNat

/-- A slice marker (R181). -/
def markerOf (n : Nat) (m : BitVec 4) : Word := BitVec.ofNat 64 (m.toNat * 2 ^ 44 + 0xFE * 2 ^ 36 + n % 2 ^ 36)

/-- The covered slices of a record with their marks. -/
def Record.slices (r : Record) : List (Nat × BitVec 4) :=
  (List.range r.covered).map (fun i => (sliceAdd (sliceOf r.wstart) i, r.marks.getD i 0#4))

/-- The blocks of the ring that hold words of a slice (R154). -/
def State.blocksOf (s : State) (e : IndexEntry) : List Nat :=
  (List.range ((e.first + e.words + 31) / 32 - e.first / 32)).map (fun i => (e.first / 32 + i) % (s.logWords / 32))

/-- The time of a log hit word of slice `n` (R181). -/
def hitTime (n : Nat) (w : Word) : Tw := sliceStart n + BitVec.ofNat 64 (w.toNat / 2 ^ 44)

/-- The words of slice `n` that a record takes: in the window, and in no failed block (R154, R181). -/
def State.sliceWords (s : State) (r : Record) (bad : List Nat) (n : Nat) : List Word :=
  match s.entryOf n with
  | none => []
  | some e =>
    (List.range e.words).filterMap (fun i =>
      let k := (e.first + i) % s.logWords
      let w := Tab.get 0#64 s.hist.log k
      let t := hitTime n w
      if bad.contains (k / 32) || before t r.wstart || !before t r.wend then none else some w)

/-- The failed blocks that a record meets (R145, R154, R182): poisoned at their write, upset as the operand says, or behind an
index entry whose CRC fails. -/
def State.failedBlocks (s : State) (r : Record) (upset : List Nat) : List Nat :=
  let lost := r.slices.flatMap (fun x => s.lostWith x.1)
  ((r.slices.flatMap (fun x => (s.entryOf x.1).elim [] s.blocksOf)).filter (fun b =>
    s.hist.poisoned.contains b || upset.contains b || lost.contains b)).dedup

/-- The log blocks that hold words of a record's window, by their first words (R147). -/
def State.neededBlocks (s : State) (r : Record) : List Nat :=
  (r.slices.flatMap (fun x =>
    match s.entryOf x.1 with
    | none => []
    | some e =>
      (List.range e.words).filterMap (fun i =>
        let t := hitTime x.1 (Tab.get 0#64 s.hist.log ((e.first + i) % s.logWords))
        if before t r.wstart || !before t r.wend then none else some ((e.first + i) / 32 * 32)))).dedup

/-- The trailer of a record (R182) from its hits with their offsets. -/
def Record.trailer (r : Record) (bodyWords : Nat) (hits : List (Nat × Word)) (bad : Nat) : List Byte :=
  let ports := (hits.map (fun h => h.2.toNat / 2 ^ 36 % 256)).dedup.length
  let flagged := hits.countP (fun h => decide (h.2.toNat / 2 ^ 20 % 8 ≠ 0))
  leBytes 4 bodyWords ++ leBytes 4 hits.length ++ leBytes 4 ((hits.head?.map Prod.fst).getD 0xFFFFFFFF) ++
    leBytes 4 ((hits.getLast?.map Prod.fst).getD 0xFFFFFFFF) ++ leBytes 4 (min r.stragglers 0xFFFFFFFF) ++
    leBytes 2 (r.marks.countP (fun m => m.getLsbD 3)) ++ leBytes 2 bad ++ leBytes 2 ports ++ leBytes 2 (min flagged 65535)

/-- The bytes of a record (R179), and whether its trailer reports a loss (R248). -/
def State.recordBytes (s : State) (r : Record) (upset : List Nat) : List Byte × Bool :=
  let bad := s.failedBlocks r upset
  let parts := r.slices.map (fun x => (x.1, markerOf x.1 x.2, s.sliceWords r bad x.1))
  let hits := parts.flatMap (fun x => x.2.2.map (fun w => ((hitTime x.1 w - r.wstart).toNat, w)))
  let body := parts.flatMap (fun x => x.2.1 :: x.2.2)
  let data := r.header ++ body.flatMap wordBytes ++ r.trailer body.length hits bad.length
  (data ++ leBytes 4 (crc32c data).toNat,
    decide (r.stragglers ≠ 0) || r.marks.any (fun m => m.getLsbD 3) || !bad.isEmpty)

/-! ### Transfers (R247, R255, R256) -/

/-- The bytes of a record in the buffers of the descriptors, in order (R247). -/
def fillBuffers : List Desc → List Byte → List (Nat × List Byte)
  | [], _ => []
  | d :: ds, b => if b.isEmpty then [] else (d.addr.toNat, b.take d.len.toNat) :: fillBuffers ds (b.drop d.len.toNat)

/-- Bytes written from an address on as data TLPs: each of at most `mps` bytes, and none across a 4 KiB boundary (R255); `n`
bounds their number. -/
def tlps (mps : Nat) : Nat → Nat → List Byte → List (Nat × List Byte)
  | 0, _, _ => []
  | n + 1, a, b =>
    let k := min mps (4096 - a % 4096)
    if b.isEmpty then [] else (a, b.take k) :: tlps mps n (a + k) (b.drop k)

/-- Write record data to host memory (R236, R255): Relaxed Ordering where both enables are set. -/
def State.writeData (s : State) (w : Nat × List Byte) : State :=
  (tlps s.host.mps w.2.length w.1 w.2).foldl (fun s t =>
    s.emit (.hostWrite t.1 t.2 (s.host.relaxed && decide (s.conf cRelaxedOrdering = 1)))) s

/-- The transfers in progress (R255, R268). -/
def State.transfers (s : State) : Nat := s.host.queues.countP (fun e => e.2.transfer.isSome)

/-- The queues whose head record is not full. -/
def State.ready (s : State) : List Nat :=
  (s.host.queues.map Prod.fst).filter (fun q => decide (s.headOf q = .ok))

/-- The queue whose transfer starts next: groups by rotating priority, queues ascending (R25, R255). After a grant to group g
the order is g + 1 upward around to g: R25 says no more than that g comes last (DESIGN CHOICE, log entry 49). -/
def State.nextQueue (s : State) : Option Nat :=
  (s.ready.insertionSort (fun a b =>
    (a / 64 + 256 - s.host.nextGroup) % 256 < (b / 64 + 256 - s.host.nextGroup) % 256 ∨
      ((a / 64 + 256 - s.host.nextGroup) % 256 = (b / 64 + 256 - s.host.nextGroup) % 256 ∧ a ≤ b))).head?

/-- The CRCs of the index entries of slices `l` do not hold (R145). -/
def State.upsetIndex (s : State) (l : List Nat) : State :=
  { s with hist := { s.hist with
    badIndex := (s.hist.badIndex ++ (l.filter (fun n => (s.inIndex n).isSome)).map s.indexSlot).dedup } }

/-- The transfer of record `r` from queue `q` begins: the header-ring entry and the body are read, and the data written
(R247, R255); a block found to have failed is counted once (R145, R154), and the pin moves as the body is read (R147). -/
def State.startTransfer (s : State) (q : Nat) (r : Record) (upset : List Nat) : State :=
  let b := s.recordBytes r upset
  let bad := s.failedBlocks r upset
  let s := bad.foldl (fun s k => s.countBlock k r.closing true) s
  let s : State := { s with hist := { s.hist with poisoned := (s.hist.poisoned ++ bad).dedup } }
  let x := s.queue q
  let bufs := fillBuffers x.fetched b.1
  let tag := (x.fetched.head?.map (·.tag)).getD 0#32
  let s := s.setQueue q { x with transfer := some ⟨r.seq, b.1, x.descHead, bufs.length, tag, b.2⟩ }
  let s := bufs.foldl State.writeData s
  let s := s.setRecord r.seq.toNat { r with inTransfer := true, reads := s.neededBlocks r, readC := s.tb.c }
  { s with host := { s.host with nextGroup := (q / 64 + 1) % 256 } }

/-- TRANSFER_START: the host port starts the next transfer (R255); `upsetBlocks` are the blocks of the log ring whose CRC fails
on this read without having been written so, `upsetEntries` the slices whose index entry's CRC does (R145). -/
def execTransferStart (dt : Nat) (q : QueueId) (upsetBlocks upsetEntries : List Nat) (s : State) :
    Host.Outcome State Fault Refusal :=
  let s := s.elapse dt
  .next <|
    if s.delivers && decide (s.nextQueue = some q.val) && decide (s.transfers < 64) then
      match (s.queue q.val).line.head?.bind s.record with
      | some r => (s.upsetIndex upsetEntries).startTransfer q.val r upsetBlocks
      | none => s
    else s

/-- The 32 bytes of a completion entry (R248). -/
def completion (q : Queue) (r : Record) (t : Transfer) : List Byte :=
  leBytes 8 r.seq.toNat ++ leBytes 4 t.bytes.length ++ leBytes 2 t.firstDesc ++ leBytes 2 t.used ++
    leBytes 4 q.complSeq.toNat ++
    leBytes 2 (bnat r.replay + 2 * bnat t.loss + 4 * bnat (r.flags.getLsbD 0 || r.flags.getLsbD 1) +
      8 * bnat r.overflowed) ++
    leBytes 1 r.trig.cls ++ [0#8] ++ leBytes 4 r.closing ++ leBytes 4 t.tag.toNat

/-- A queue after a completion entry (R246, R248, R256, R258, R260). -/
def Queue.completed (q : Queue) (t : Transfer) (c : BitVec 64) : Queue :=
  { q with
    transfer := none
    fetched := q.fetched.drop t.used
    descHead := (q.descHead + t.used) % q.descs
    complTail := (q.complTail + 1) % q.compls
    complSeq := q.complSeq + 1
    delivered := q.delivered + 1
    firstAt := if q.unsignalled = 0 then c else q.firstAt
    unsignalled := if q.intr then q.unsignalled + 1 else q.unsignalled
    state := if q.state = .draining then .disabled else q.state }

/-- The completion entry of the transfer of queue `q` is written (R248, R256, R257, R258). -/
def State.completeTransfer (s : State) (q : Nat) (t : Transfer) (r : Record) : State :=
  let x := s.queue q
  let s := s.emit (.hostWrite (x.complBase.toNat + 32 * x.complTail) (completion x r t) false)
  let s := (s.setQueue q (x.completed t s.tb.c)).freeRecord r.seq.toNat
  let s := ((s.bump64 kHostBytesDelivered t.bytes.length).bump64 kHostRecordsDelivered).bump64 kHostRecordsReplayed
    (bnat r.replay)
  (s.signal q).settle [q]

/-- A transfer that has begun goes on to its completion entry: in RUN as MAINMAST or SOLO, and in STANDSTILL after it (R30,
R259). -/
def State.completes (s : State) : Bool :=
  (decide (s.sys.dev = .run) || decide (s.sys.dev = .standstill)) &&
    (decide (s.sys.role = .mainmast) || decide (s.sys.role = .solo))

/-- TRANSFER_COMPLETE: the last data byte has been written, and the completion entry follows (R248, R256). -/
def execTransferComplete (dt : Nat) (q : QueueId) (s : State) : Host.Outcome State Fault Refusal :=
  let s := s.elapse dt
  .next <|
    if !s.completes then s else
    match (s.queue q.val).transfer with
    | none => s
    | some t =>
      match s.record t.seq.toNat with
      | some r => s.completeTransfer q.val t r
      | none => s

/-- WAIT_LIMIT_EXPIRY: the head of a line has waited WaitLimit since its close and is full (R254). -/
def execWaitLimitExpiry (dt : Nat) (q : QueueId) (s : State) : Host.Outcome State Fault Refusal :=
  let s := s.elapse dt
  let limit := s.conf (groupObj (q.val / 64) 12)
  .next <|
    match (s.queue q.val).line.head?.bind s.record with
    | some r =>
      if s.delivers && decide (s.headOf q.val = .full) && decide (s.conf (groupObj (q.val / 64) 9) = 0) &&
          decide (limit ≠ 0) && decide ((usFu limit : Int) ≤ twDiff s.now r.closedAt) then
        (s.recordFull r.seq.toNat q.val).settle [q.val]
      else s
    | none => s

/-- MODERATION_TIMEOUT: ModTime has passed since the first unsignalled entry of an armed queue (R258). -/
def execModerationTimeout (dt : Nat) (q : QueueId) (s : State) : Host.Outcome State Fault Refusal :=
  .next ((s.elapse dt).signal q.val)

/-! ### The link and resets (R237, R261, R420) -/

/-- Max_Payload_Size: 128, 256 or 512 bytes; any other value is not supported and acts as 128 (R236). -/
def payloadSize (mps : Nat) : Nat := if mps = 256 ∨ mps = 512 then mps else 128

/-- PCIE_LINK_UP: the link has trained; the configuration space gives bus mastering, D0, the enable of Relaxed Ordering and
Max_Payload_Size (R236, R237, R253, R420). -/
def execPcieLinkUp (dt : Nat) (gen width : Nat) (busMaster d0 relaxed : Bool) (mps : Nat) (s : State) :
    Host.Outcome State Fault Refusal :=
  let s := s.elapse dt
  .next <|
    if s.sys.dev = .powered ∨ s.sys.perst then s
    else
      ({ s with host := { s.host with
        gen := gen, width := width, busMaster := busMaster, d0 := d0, relaxed := relaxed
        mps := payloadSize mps } } : State).resumeHost

/-- The link is down: transfers end, and every head is full (R253, R261). -/
def State.linkDown (s : State) : State :=
  let s := s.abortTransfers
  let s : State := { s with host := { s.host with gen := 0, width := 0 } }
  s.settle s.lines

/-- PCIE_LINK_DOWN (R261). -/
def execPcieLinkDown (dt : Nat) (s : State) : Host.Outcome State Fault Refusal := .next (s.elapse dt).linkDown

/-- What Function Level Reset, hot reset and PERST_N do besides ending transfers (R242, R261, R271). -/
def State.hostReset (s : State) : State :=
  let s := s.abortTransfers
  let s : State := { s with
    host := { s.host with
      queues := s.host.queues.filterMap (fun e => if e.2.line.isEmpty then none else some (e.1, { Queue.empty with line := e.2.line }))
      msix := [], msixPending := [] }
    ctl := { s.ctl with reqTail := 0, reqHead := 0, respTail := 0, respHead := 0, armed := false, posted := [] } }
  (s.bump kHostFlrCount).settle s.lines

/-- FUNCTION_LEVEL_RESET (R261). -/
def execFunctionLevelReset (dt : Nat) (s : State) : Host.Outcome State Fault Refusal := .next (s.elapse dt).hostReset

/-- HOT_RESET: as a Function Level Reset, with the link down until it has trained again (R261). -/
def execHotReset (dt : Nat) (s : State) : Host.Outcome State Fault Refusal := .next (s.elapse dt).hostReset.linkDown

/-- PERST_N is asserted: the host port is reset, and its link is down (R261, R417). -/
def execPerstN (dt : Nat) (s : State) : Host.Outcome State Fault Refusal :=
  let s := (s.elapse dt).hostReset.linkDown
  .next { s with sys := { s.sys with perst := true } }

/-- PERST_N_RELEASE: PERST_N rises, and training may begin (R420). -/
def execPerstNRelease (dt : Nat) (s : State) : Host.Outcome State Fault Refusal :=
  let s := s.elapse dt
  .next { s with sys := { s.sys with perst := false } }

/-- BUS_MASTER_DISABLE (R253, R261). -/
def execBusMasterDisable (dt : Nat) (s : State) : Host.Outcome State Fault Refusal :=
  let s := (s.elapse dt).abortTransfers
  let s : State := { s with host := { s.host with busMaster := false } }
  .next (s.settle s.lines)

/-- D3HOT_ENTRY (R253, R261). -/
def execD3hotEntry (dt : Nat) (s : State) : Host.Outcome State Fault Refusal :=
  let s := (s.elapse dt).abortTransfers
  let s : State := { s with host := { s.host with d0 := false } }
  .next (s.settle s.lines)

end Sys2Proof.Machine
end

