-- ==== Sys2Proof/Machine/Monitor.lean ====
section
/-! DEFINITION. The monitor front end (14_monitor_front_end.md, R364 to R389). Commands of the monitor act when their
nominal instant on the 1 µs grid of the raw counter has come, and the times that they set are the nominal ones. -/

namespace Sys2Proof.Machine

/-- The oversampling ratio of a Rate (R366). -/
def osrOf (rate : Nat) : Nat :=
  [400000, 200000, 100000, 40000, 20000, 10000, 4000, 2000, 1000, 500, 250].getD rate 250

/-- `us` microseconds as a raw count. -/
def rawUs (us : Nat) : BitVec 64 := BitVec.ofNat 64 (usFu us)

/-- The first modulator edge at or after a raw count (R366, R374). -/
def edgeFrom (c : Nat) : BitVec 64 := BitVec.ofNat 64 ((c + 1023999) / 1024000 * 1024000)

/-- The first modulator edge at or after the present tick (R366, R374). -/
def State.edge (s : State) : BitVec 64 := edgeFrom s.tb.c.toNat

/-- The first modulator edge at or after a time of the present tick (R374): one that is later than the tick's beginning lies
past an edge there. -/
def State.edgeAfter (s : State) (t : Tw) : BitVec 64 := edgeFrom (s.tb.c.toNat + bnat (before s.now t))

/-- `us` microseconds of raw time have passed since a raw count. -/
def State.reached (s : State) (from_ : BitVec 64) (us : Nat) : Bool := decide ((usFu us : Int) ≤ (s.tb.c - from_).toInt)

/-- The monitor takes starts: it is powered, its first 2 ms have passed, and the device is in STANDSTILL, RUN or FENCED
(R377). -/
def State.monRuns (s : State) : Bool :=
  decide (s.mon.phase ≠ .off ∧ s.mon.phase ≠ .waiting) &&
    (decide (s.sys.dev = .standstill) || decide (s.sys.dev = .run) || decide (s.sys.dev = .fenced))

/-- Change the monitor. -/
def State.setMon (s : State) (m : Monitor) : State := { s with mon := m }

/-! ### Channels -/

/-- The excitation pair of an external channel, if any (R368, R389). -/
def State.pairOf (s : State) (ch : Nat) : Option Nat :=
  let j := s.conf (cChExcPair ch)
  if ch < 32 ∧ j ≤ 3 then some j else none

/-- The channel converts in two halves (R369). -/
def State.alternates (s : State) (ch : Nat) : Bool := (s.pairOf ch).isSome && decide (s.conf (cChAlternate ch) = 1)

/-- The channel ranges itself (R372); internal channels convert at range 0 (R364). -/
def State.autoRange (s : State) (ch : Nat) : Bool := decide (ch < 32) && decide (s.conf (cChRangeMode ch) = 8)

/-- The range that the channel's next conversion uses (R364, R372). -/
def State.rangeOf (s : State) (ch : Nat) : Nat :=
  if 32 ≤ ch then 0
  else if s.autoRange ch then s.count (kChCurrentRange ch)
  else s.conf (cChRangeMode ch)

/-- The code of a raw code by the trim in use (R380), clipped, and whether it clipped (R367). -/
def State.codeOf (s : State) (ch r : Nat) (raw : Int) : Int × Bool :=
  let v := if s.mon.trimValid then Config.trimmed ch r raw else Config.nominal ch r raw
  if 8388607 < v then (8388607, true) else if v < -8388607 then (-8388607, true) else (v, false)

/-- An excitation fault of the channel's pair overlaps the window that began at raw count `a` and ends now (R370). -/
def State.excIn (s : State) (ch : Nat) (a : BitVec 64) : Bool :=
  match s.pairOf ch with
  | none => false
  | some j => [2 * j, 2 * j + 1].any (fun k => s.mon.excStatus.getLsbD k ||
      match Tab.look s.mon.excCleared k with
      | some c => decide (0 < (c - a).toInt)
      | none => false)

/-- The autoranging step of R372: the next range, and whether the result is reported. -/
def rangeStep (clipped : Bool) (mag : Nat) (r : Nat) : Nat × Bool :=
  if clipped && decide (0 < r) then (r - 1, false)
  else if 7549747 < mag ∧ 0 < r then (r - 1, true)
  else if mag < 3355443 ∧ r < 7 then (r + 1, true)
  else (r, true)

/-! ### Results (R382 to R384) -/

/-- The physical value of a result of an internal channel (R364, R380): of OFFSET 0; bit 0 of the flags is UNTRIMMED. -/
def MonResult.physical (r : MonResult) : Int :=
  if r.chan = 32 then 0 else Config.physical (!r.flags.getLsbD 0) r.chan r.code

/-- The value that the alarms compare (R384). -/
def MonResult.compared (r : MonResult) : Int :=
  if r.chan < 32 then r.code * 2 ^ (7 - r.range) else r.physical

/-- Word 1 of a result with its number (R382). -/
def MonResult.word1 (r : MonResult) (number : Nat) : Nat :=
  (BitVec.ofInt 24 r.code).toNat * 2 ^ 40 + r.range * 2 ^ 37 + r.flags.toNat * 2 ^ 31 + r.chan * 2 ^ 24 +
    r.entry * 2 ^ 16 + number % 65536

/-- Word 2 of a result (R364, R382). -/
def MonResult.word2 (r : MonResult) : Nat :=
  if r.chan < 32 then 0 else (BitVec.ofInt 32 r.physical).toNat

/-- The result carries INJECTED: bit 32 of word 1. -/
def MonResult.injected (r : MonResult) : Bool := r.flags.getLsbD 1

/-- The alarms of a result (R384, R385). -/
def State.monAlarm (s : State) (r : MonResult) : State :=
  let v := r.compared
  let low := decide (v < s.confInt 32 (cChAlarmLow r.chan))
  let high := decide (s.confInt 32 (cChAlarmHigh r.chan) < v)
  let old := s.count (kChAlarmState r.chan)
  let s := s.setStat (kChAlarmState r.chan) (bnat low + 2 * bnat high)
  let d := fun (b : Nat) => jdata [(0, b), (4, (BitVec.ofInt 32 v).toNat)]
  let s := if low && !bit old 0 then s.journal 0x0A01 r.chan (d 1) else s
  if high && !bit old 1 then s.journal 0x0A01 r.chan (d 2) else s

/-- Publish a result (R382, R383, R384). -/
def State.publish (s : State) (r : MonResult) : State :=
  let number := Tab.get 0 s.mon.numbers r.chan
  let s := s.setMon { s.mon with numbers := Tab.set 0 s.mon.numbers r.chan ((number + 1) % 65536) }
  let s := s.setStat (kChLastResult0 r.chan) r.time.toNat
  let s := s.setStat (kChLastResult1 r.chan) (r.word1 number)
  let s := s.setStat (kChLastResult2 r.chan) r.word2
  let s := if r.injected then
      ((s.setStat (kInjectedResult r.entry 0) r.time.toNat).setStat (kInjectedResult r.entry 1) (r.word1 number)).setStat
        (kInjectedResult r.entry 2) r.word2
    else s
  (s.bump (kChResults r.chan)).monAlarm r

/-- A result is published at once, or waits for the reload that is under way (R381). -/
def State.report (s : State) (r : MonResult) : State :=
  if s.mon.reload.isSome then s.setMon { s.mon with held := s.mon.held ++ [r] } else s.publish r

/-! ### Sequences (R373 to R376) -/

/-- The entry of dictionary index 0x2A10 + i (R386). -/
def State.monEntry (s : State) (i : Nat) : MonEntry :=
  ⟨s.conf (cEntChannel i), s.conf (cEntRate i), s.conf (cEntSettleTime i), s.conf (cEntCount i)⟩

/-- In FAULT entries of external channels are skipped (R377). -/
def State.skips (s : State) (e : MonEntry) : Bool := decide (s.sys.dev = .fault) && decide (e.channel < 32)

/-- The entries of the sequence under way. -/
def Monitor.entries (m : Monitor) : List MonEntry := if m.injected then m.injEntries else m.regular

/-- The entry under way. -/
def Monitor.current (m : Monitor) : MonEntry := m.entries.getD m.entry ⟨32, 2, 1000, 1⟩

/-- The first entry of `l` from index `i` on that is not skipped. -/
def State.nextEntry (s : State) (l : List MonEntry) (i : Nat) : Option Nat :=
  (List.range l.length).find? (fun k => decide (i ≤ k) && !(l[k]?.any s.skips))

/-- Start the settling delay of entry `i` at raw count `t`, `done` of its results standing (R366, R375). -/
def State.settleAt (s : State) (t : BitVec 64) (i done : Nat) (half : Option Half) : State :=
  s.setMon { s.mon with phase := .settling, started := t, entry := i, done := done, half := half, checkDue := false }

/-- Nothing is left to convert. -/
def State.monIdle (s : State) : State := s.setMon { s.mon with phase := .idle, half := none, checkDue := false }

/-- Begin a pass of the regular sequence at `t` under the entries in force (R373, R377). -/
def State.startPass (s : State) (t : BitVec 64) : State :=
  let l := (List.range (s.conf cMonRegularLength)).map s.monEntry
  let s := s.setMon { s.mon with injected := false, regular := l, passRunning := true, checked := [], resume := none }
  match s.nextEntry l 0 with
  | some i => s.settleAt t i 0 none
  | none => (s.setMon { s.mon with passRunning := false }).monIdle

/-- The pass has ended at `t`: a continuous sequence, or a latched start, begins the next (R373, R376). -/
def State.endPass (s : State) (t : BitVec 64) : State :=
  let s := s.bump kMonRegularPasses
  let latched := s.mon.latched
  let s := s.setMon { s.mon with passRunning := false, latched := false, passCount := s.mon.passCount + 1 }
  if s.conf cMonRegularMode = 1 ∨ (s.conf cMonRegularMode = 2 ∧ latched = true) then s.startPass t else s.monIdle

/-- The regular sequence goes on at `t` with entry `i` or the first one behind it that is not skipped. -/
def State.seekRegular (s : State) (t : BitVec 64) (i done : Nat) (half : Option Half) : State :=
  match s.nextEntry s.mon.regular i with
  | some k => if k = i then s.settleAt t i done half else s.settleAt t k 0 none
  | none => s.endPass t

/-- After the last injected entry the regular sequence resumes at `t` (R375, R376). -/
def State.endInjected (s : State) (t : BitVec 64) : State :=
  let due := s.mon.checkDue
  let r := s.mon.resume
  let s := s.setMon { s.mon with injected := false, resume := none }
  match r with
  | some (i, done, half) =>
    if due && !(s.mon.regular[i]?.any s.skips) then
      s.setMon { s.mon with phase := .checking, started := t, entry := i, done := done, half := none }
    else s.seekRegular t (if due then i + 1 else i) (if due then 0 else done) half
  | none => s.monIdle

/-- The injected sequence goes on at `t` with entry `i` or behind. -/
def State.seekInjected (s : State) (t : BitVec 64) (i : Nat) : State :=
  match s.nextEntry s.mon.injEntries i with
  | some k => s.setMon { s.mon with phase := .settling, started := t, entry := k, done := 0, half := none }
  | none => s.endInjected t

/-- The sequence under way goes on at `t` behind the current entry. -/
def State.nextAt (s : State) (t : BitVec 64) : State :=
  if s.mon.injected then s.seekInjected t (s.mon.entry + 1) else s.seekRegular t (s.mon.entry + 1) 0 none

/-- An injected start is taken: its entries are those in force now (R374, R377). -/
def State.takeInjected (s : State) : State :=
  s.setMon { s.mon with injEntries := (List.range (s.conf cMonInjectedLength)).map (fun k => s.monEntry (64 + k)) }

/-- Begin the injected sequence of the start that was taken at `t` (R374); an interrupted pass is to resume with `half`, or a
repeated check. -/
def State.beginInjected (s : State) (t : BitVec 64) (half : Option Half) : State :=
  let s := s.bump kMonInjectedRuns
  let res := if s.mon.passRunning then some (s.mon.entry, s.mon.done, half) else none
  let s := s.setMon { s.mon with injected := true, injWait := false, resume := res }
  s.seekInjected t 0

/-- At the end of a window at `t`: an injected sequence that waits for it begins (R374). -/
def State.windowEnd (s : State) (t : BitVec 64) : State :=
  if s.mon.injWait then s.beginInjected t s.mon.half else s

/-! ### Conversion -/

/-- SETTLE_END: the settling delay ends and the filter is reset (R366). -/
def execSettleEnd (dt : Nat) (s : State) : Host.Outcome State Fault Refusal :=
  let s := s.elapse dt
  .next <|
    if s.mon.phase = .settling ∧ s.reached s.mon.started s.mon.current.settle = true then
      s.setMon { s.mon with phase := .converting, started := s.mon.started + rawUs s.mon.current.settle }
    else s

/-- The entry has produced one more result at `t`: the next window, the next entry, or, after the first entry of its channel in
the pass, a wire-break check (R366, R373, R378); `settle` says that the range changed or the channel alternates. -/
def State.afterResult (s : State) (t : BitVec 64) (settle : Bool) : State :=
  let e := s.mon.current
  let done := s.mon.done + 1
  let first := !s.mon.injected && decide (e.channel < 32) && !s.mon.checked.contains e.channel
  if done < e.count then
    if settle then s.setMon { s.mon with phase := .settling, started := t, done := done, half := none }
    else s.setMon { s.mon with done := done, started := s.mon.started + rawUs (osrOf e.rate) }
  else
    let s := if first then s.setMon { s.mon with checked := s.mon.checked ++ [e.channel] } else s
    if first && decide (s.conf (cChBreakCheck e.channel) = 1) && decide (s.mon.passCount % s.conf cMonBreakEvery = 0) then
      s.setMon { s.mon with phase := .checking, started := t, done := done, half := none, checkDue := true }
    else s.nextAt t

/-- A whole conversion of channel `ch` at range `r` has ended at `t` (R366, R369, R372). -/
def State.converted (s : State) (t : BitVec 64) (r : Nat) (code : Int) (clipped exc : Bool) (mag : Nat) (centre : BitVec 64) :
    State :=
  let e := s.mon.current
  let ch := e.channel
  let st := if s.autoRange ch then rangeStep clipped mag r else (r, true)
  let s := if s.autoRange ch then s.setStat (kChCurrentRange ch) st.1 else s
  if !st.2 then s.setMon { s.mon with phase := .settling, started := t, half := none }
  else
    let alt := s.alternates ch
    let flags := BitVec.ofNat 6 (bnat (!s.mon.trimValid) + 2 * bnat s.mon.injected + 4 * bnat alt + 8 * bnat exc +
      16 * bnat (s.mon.broken.contains ch) + 32 * bnat clipped)
    (s.report ⟨ch, s.tb.tw centre, code, r, flags, s.mon.entry⟩).afterResult t (alt || decide (st.1 ≠ r))

/-- CONVERSION_RESULT: a window ends with raw code `raw` (R366, R369). -/
def execConversionResult (dt : Nat) (raw : Int) (s : State) : Host.Outcome State Fault Refusal :=
  let s := s.elapse dt
  let e := s.mon.current
  let w := 3 * osrOf e.rate
  .next <|
    if s.mon.phase = .converting ∧ s.reached s.mon.started w = true then
      let a := s.mon.started
      let t := a + rawUs w
      let centre := a + BitVec.ofNat 64 (usFu w / 2)
      let r := s.rangeOf e.channel
      let c := s.codeOf e.channel r raw
      let exc := s.excIn e.channel a
      let s :=
        if s.alternates e.channel then
          match s.mon.half with
          | none => s.setMon { s.mon with phase := .settling, started := t, half := some ⟨c.1, c.2, exc, centre⟩ }
          | some p => s.converted t r (roundEven (p.code - c.1) 2) (p.clipped || c.2) (p.exc || exc)
              (max p.code.natAbs c.1.natAbs) (p.centre + BitVec.ofNat 64 ((centre - p.centre).toNat / 2))
        else s.converted t r c.1 c.2 exc c.1.natAbs centre
      s.windowEnd t
    else s

/-- BREAK_CHECK_DONE: a wire-break check ends with raw code `raw` (R378, R385). -/
def execBreakCheckDone (dt : Nat) (raw : Int) (s : State) : Host.Outcome State Fault Refusal :=
  let s := s.elapse dt
  let ch := s.mon.current.channel
  .next <|
    if s.mon.phase = .checking ∧ s.reached s.mon.started 950 = true then
      let t := s.mon.started + rawUs 950
      let code := (s.codeOf ch 0 raw).1
      let s := s.bump kMonChecksRun
      let s := s.setMon { s.mon with checkDue := false }
      let s := if 4194304 < code then
          ((s.setMon { s.mon with broken := s.mon.broken.filter (· ≠ ch) ++ [ch] }).bump (kChBreaks ch)).journal 0x0A02 ch
            (jdata [(0, (BitVec.ofInt 32 code).toNat)])
        else s.setMon { s.mon with broken := s.mon.broken.filter (· ≠ ch) }
      (s.nextAt t).windowEnd t
    else s

/-! ### Starts -/

/-- An injected start is requested: it takes effect at modulator edge `e`, the first one at or after its time; those of one
edge are one (R374). -/
def State.requestInjected (s : State) (e : BitVec 64) : State :=
  s.setMon { s.mon with injStarts := (s.mon.injStarts.filter (· ≠ e)) ++ [e] }

/-- A regular conversion, settling delay or check is in progress. -/
def Monitor.regularBusy (m : Monitor) : Bool :=
  !m.injected && (decide (m.phase = .settling) || decide (m.phase = .converting) || decide (m.phase = .checking))

/-- INJECTED_SEQUENCE_BEGIN: the modulator edge of a requested injected start (R374, R376). -/
def execInjectedSequenceBegin (dt : Nat) (s : State) : Host.Outcome State Fault Refusal :=
  let s := s.elapse dt
  .next <|
    match s.mon.injStarts with
    | [] => s
    | t :: rest =>
      if !s.reached t 0 then s
      else
        let s := s.setMon { s.mon with injStarts := rest }
        if s.conf cMonInjectedEnable ≠ 1 ∨ s.monRuns = false then s.bump kMonInjectedIgnored
        else if s.mon.injected || s.mon.injWait then s.bump kMonInjectedOverrun
        else
          let s := s.takeInjected
          if !s.mon.regularBusy then s.beginInjected t none
          else if s.conf cMonInjectedMode = 1 then s.setMon { s.mon with injWait := true }
          else (s.bump kMonAborts).beginInjected t none

/-- A regular start at `t` (R376). -/
def State.regularStart (s : State) (t : BitVec 64) : State :=
  if s.conf cMonRegularMode ≠ 2 then s
  else if s.mon.passRunning || decide (s.mon.phase = .waiting) then
    if s.mon.latched then s.bump kMonRegularOverrun else s.setMon { s.mon with latched := true }
  else if s.mon.injected then
    s.setMon { s.mon with passRunning := true, checked := [], resume := some (0, 0, none),
                          regular := (List.range (s.conf cMonRegularLength)).map s.monEntry }
  else s.startPass t

/-- The pass ends at once, without a result (R376, R377). -/
def State.abortPass (s : State) : State :=
  if s.mon.passRunning then
    let s := s.setMon { s.mon with passRunning := false, latched := false, resume := none, checkDue := false }
    if s.mon.injected then s else s.monIdle
  else s

/-- A regular abort at `t` (R376): in continuous mode the next pass begins where this one ends. -/
def State.regularAbort (s : State) (t : BitVec 64) : State :=
  if !s.mon.passRunning then s
  else
    let s := s.abortPass
    let s := if s.mon.injWait then s.beginInjected t none else s
    if s.conf cMonRegularMode = 1 ∧ s.mon.injected = false then s.startPass t else s

/-- A write of SequenceControl (R374, R376). -/
def State.sequenceControl (s : State) (v : Nat) : State :=
  if v = 3 then s.requestInjected s.edge
  else if s.mon.phase = .off then s
  else if v = 1 then s.regularStart s.edge
  else if v = 2 then s.regularAbort s.edge
  else s

/-! ### Power and trim (R377, R380, R381) -/

/-- PD44 is to be powered by the configuration (R377). -/
def State.monWanted (s : State) : Bool :=
  decide (s.sys.dev ≠ .powered ∧ s.sys.dev ≠ .boot) &&
    (decide (s.conf cMonRegularMode ≠ 0) || decide (s.conf cMonInjectedEnable = 1) ||
      (List.range 8).any (fun k => decide (s.conf (cExcMode k) ≠ 0)))

/-- The fuses have been read: a bad CRC leaves nominal values and is journalled once (R380, R385). -/
def State.fuses (s : State) (ok : Bool) : State :=
  let s := s.setMon { s.mon with trimValid := ok }
  if ok || s.mon.trimError then s
  else (s.setMon { s.mon with trimError := true }).journal 0x0A05 srcDevice 0#128

/-- What the monitor keeps while PD44 is off: the state of the trim, and the latched breaks (R378, R380). -/
def Monitor.unpowered (m : Monitor) : Monitor :=
  { Monitor.empty with trimError := m.trimError, trimValid := m.trimValid, broken := m.broken }

/-- PD44 powers up or down (R372, R377, R378, R380, R382); when it goes off CurrentRange stays (R308). At power-up the trim is loaded; whether the CRC of the fuses holds
then is free (log entry 6). -/
def State.monPower (s : State) : State :=
  if s.monWanted && !s.mon.power then
    let s := (List.range 40).foldl (fun (s : State) ch => s.setStat (kChCurrentRange ch) 0) s
    let s := s.setMon { s.mon.unpowered with phase := .waiting, started := s.tb.c, power := true }
    s.nextFree.fuses (s.freeVal.getLsbD 0)
  else if !s.monWanted && s.mon.power then
    let s := (List.range 40).foldl (fun (s : State) ch => s.setStat (kChCurrentRange ch) (s.rangeOf ch)) s
    s.setMon s.mon.unpowered
  else s

/-- Start a reload of the trim (R380, R381, R385). -/
def State.startReload (s : State) (cause : Nat) : State :=
  ((s.setMon { s.mon with reload := some s.tb.c }).bump kMonTrimReloads).journal 0x0A04 srcDevice (jdata [(0, cause)])

/-- A write of TrimReload (R380). -/
def State.trimReload (s : State) : State := if s.mon.power then s.startReload 1 else s

/-- MONITOR_START: 2 ms after power-up the first conversion begins (R377). -/
def execMonitorStart (dt : Nat) (s : State) : Host.Outcome State Fault Refusal :=
  let s := s.elapse dt
  .next <|
    if s.mon.phase = .waiting ∧ s.reached s.mon.started 2000 = true then
      let s := s.monIdle
      let latched := s.mon.latched
      let s := s.setMon { s.mon with latched := false }
      if s.conf cMonRegularMode = 1 ∨ (s.conf cMonRegularMode = 2 ∧ latched = true) then s.startPass s.edge else s
    else s

/-- TRIM_COMPARE: the comparison with the fuses every 10 ms (R380). -/
def execTrimCompare (dt : Nat) (mismatch fuseOk : Bool) (s : State) : Host.Outcome State Fault Refusal :=
  let s := s.elapse dt
  .next <|
    if !s.mon.power || decide (s.mon.phase = .waiting) then s
    else if mismatch then (s.startReload 0).fuses fuseOk
    else if fuseOk then s else s.fuses false

/-- TRIM_RELOAD_DONE: the results that waited are published (R381). -/
def execTrimReloadDone (dt : Nat) (s : State) : Host.Outcome State Fault Refusal :=
  let s := s.elapse dt
  .next <|
    match s.mon.reload with
    | some c =>
      if s.reached c 20 then
        let l := s.mon.held
        l.foldl State.publish (s.setMon { s.mon with reload := none, held := [] })
      else s
    | none => s

/-! ### Excitation (R368 to R371) -/

/-- What a driver does to its ball EXFk (R368): high impedance; regulated so that EXSk has a voltage in mV; a current out of
or into the ball, in µA. -/
inductive ExcDrive where
  | highZ | volts (mv : Nat) | source (ua : Nat) | sink (ua : Nat)
  deriving DecidableEq, Repr

/-- Excitation channel `k` drives in phase N (R368, R369): in phase P of an alternated conversion of its pair channel 2j drives in
P and 2j + 1 in N, in phase N the other way round; outside such a conversion every channel drives in phase P (DEDUCED, log
entry 50). -/
def State.excPhaseN (s : State) (k : Nat) : Bool :=
  let ch := s.mon.current.channel
  let under := (decide (s.mon.phase = .settling) || decide (s.mon.phase = .converting)) && s.alternates ch &&
    decide (s.pairOf ch = some (k / 2))
  under && (s.mon.half.isSome ^^ decide (k % 2 = 1))

/-- What EXFk drives (R368 to R370, R377). -/
def State.excDrive (s : State) (k : Nat) : ExcDrive :=
  if !s.mon.power || decide (s.sys.dev = .fault) then .highZ
  else
    match s.conf (cExcMode k), s.excPhaseN k with
    | 1, n => if s.mon.excOff.getLsbD k then .highZ else .volts (if n then 0 else s.conf (cExcVoltageLevel k))
    | 2, false => .source (s.conf (cExcCurrentLevel k))
    | 2, true => .sink (s.conf (cExcCurrentLevel k))
    | _, _ => .highZ

/-- The conditions of R370 that a drive mode can meet. -/
def excConditions (mode : Nat) : BitVec 3 := if mode = 1 then 3#3 else if mode = 2 then 4#3 else 0#3

/-- EXC_FAULT: a condition of channel `k` has lasted 50 µs (R370, R385). -/
def execExcFault (dt : Nat) (k : Fin 8) (condition : BitVec 3) (s : State) : Host.Outcome State Fault Refusal :=
  let s := s.elapse dt
  let mode := s.conf (cExcMode k.val)
  let cond := condition &&& excConditions mode
  .next <|
    if !s.mon.power || decide (s.sys.dev = .fault) || s.mon.excStatus.getLsbD k.val || decide (cond = 0#3) then s
    else
      let s := s.setMon { s.mon with excStatus := s.mon.excStatus ||| (1#8 <<< k.val) }
      (s.bump kMonExcFaults).journal 0x0A03 k.val (jdata [(0, mode), (1, cond.toNat)])

/-- EXC_FAULT_CLEAR: the condition has been absent for 1 ms (R370). -/
def execExcFaultClear (dt : Nat) (k : Fin 8) (s : State) : Host.Outcome State Fault Refusal :=
  let s := s.elapse dt
  .next <|
    if s.mon.excStatus.getLsbD k.val then
      s.setMon { s.mon with excStatus := s.mon.excStatus &&& ~~~(1#8 <<< k.val),
                            excCleared := Tab.put s.mon.excCleared k.val s.tb.c }
    else s

/-- EXC_DRIVER_OFF: a voltage-mode driver at its limit for 10 ms is switched off, or retries (R370). -/
def execExcDriverOff (dt : Nat) (k : Fin 8) (retry : Bool) (s : State) : Host.Outcome State Fault Refusal :=
  let s := s.elapse dt
  let b := 1#8 <<< k.val
  .next <|
    if retry then s.setMon { s.mon with excOff := s.mon.excOff &&& ~~~b }
    else if s.conf (cExcMode k.val) = 1 ∧ s.mon.excStatus.getLsbD k.val = true then
      s.setMon { s.mon with excOff := s.mon.excOff ||| b }
    else s

/-- Objects differ between two configurations. -/
def keysDiffer (a b : Tab Nat) (l : List Obj) : Bool := l.any (fun o => decide (Tab.get o.dflt a o.key ≠ Tab.get o.dflt b o.key))

/-- The objects of channel `ch` and of its excitation pair, whose change abandons its conversion (R371). -/
def State.chanObjs (s : State) (ch : Nat) : List Obj :=
  let own := if ch < 32 then [cChNegInput ch, cChRangeMode ch, cChReference ch, cChExcPair ch, cChAlternate ch,
      cChBreakCheck ch, cChAlarmLow ch, cChAlarmHigh ch] else [cChAlarmLow ch, cChAlarmHigh ch]
  let exc := match s.pairOf ch with
    | some j => [2 * j, 2 * j + 1].flatMap (fun k => [cExcMode k, cExcVoltageLevel k, cExcCurrentLevel k])
    | none => []
  own ++ exc

/-- The conversion under way is abandoned by a commit and settles again (R371). -/
def State.monRestart (s : State) (a b : Tab Nat) : State :=
  let ch := s.mon.current.channel
  if (s.mon.phase = .settling ∨ s.mon.phase = .converting) ∧ keysDiffer a b (s.chanObjs ch) = true then
    (s.setMon { s.mon with phase := .settling, started := s.edge, half := none }).bump (kChRestarts ch)
  else s

/-- The monitor at a commit slice, `a` and `b` being the configurations before and after (R370 to R372, R377, R378). -/
def State.monitorCommit (s : State) (a b : Tab Nat) : State :=
  let s := (List.range 32).foldl (fun (s : State) ch =>
    if keysDiffer a b [cChRangeMode ch] then s.setStat (kChCurrentRange ch) 0 else s) s
  let s := (List.range 8).foldl (fun (s : State) k =>
    if keysDiffer a b [cExcMode k] then s.setMon { s.mon with excOff := s.mon.excOff &&& ~~~(1#8 <<< k) } else s) s
  let s := if keysDiffer a b [cMonRegularMode, cMonBreakEvery] then s.setMon { s.mon with passCount := 0 } else s
  let s := s.monRestart a b
  let s := if s.mon.phase ≠ .off ∧ keysDiffer a b [cMonRegularMode] = true then
      let s := if s.conf cMonRegularMode = 0 then
          (let s := s.abortPass
           if s.mon.injWait then s.beginInjected s.edge none else s.setMon { s.mon with latched := false })
        else s
      if s.conf cMonRegularMode = 1 ∧ s.mon.passRunning = false ∧ s.mon.phase ≠ .waiting then
        if s.mon.injected then
          s.setMon { s.mon with passRunning := true, checked := [], resume := some (0, 0, none),
                                regular := (List.range (s.conf cMonRegularLength)).map s.monEntry }
        else s.startPass s.edge
      else s
    else s
  s.monPower

/-- The device has entered FAULT: a conversion of an external channel ends without a result (R377). -/
def State.monFault (s : State) : State :=
  let s := s.setMon { s.mon with excOff := 0#8 }
  if (s.mon.phase = .settling ∨ s.mon.phase = .converting ∨ s.mon.phase = .checking) ∧ s.mon.current.channel < 32 then
    (s.setMon { s.mon with checkDue := false }).nextAt s.edge
  else s

end Sys2Proof.Machine
end

