-- ==== Sys2Proof/Machine/Tin.lean ====
section
/-! DEFINITION. The timing inputs and the interval timer (13_interval_timer.md, R347 to R363). -/

namespace Sys2Proof.Machine

/-- 1 µs in fu: a gate handles an edge that long after its time (R355). -/
def handleDelay : Nat := 1024000

/-- How long an interpolator is busy from the edge that it measures (R353). -/
def interpBusy : Nat := 327680

/-- The device states in which the receivers of the timing inputs may be on (R348). -/
def State.inputsOn (s : State) : Bool :=
  decide (s.sys.dev = .standstill) || decide (s.sys.dev = .run) || decide (s.sys.dev = .fenced)

/-- Inputs that take their stop edges from input `m` at slice `n` (R352). -/
def State.gatesOf (s : State) (n m : Nat) : List Nat :=
  (List.range 32).filter (fun g => decide (s.confAt n (cTinMode g) = 2 ∧ s.confAt n (cTinStopInput g) = m))

/-- PD43 is powered: some input needs its receivers (R348). -/
def State.timerPower (s : State) : Bool :=
  s.inputsOn && (List.range 32).any (fun n => decide (s.confAt s.slice (cTinMode n) ≠ 0))

/-- An edge selection holds an edge direction: 1 rising, 2 falling, 3 both (R352). -/
def selects (sel : Nat) (falling : Bool) : Bool := bit sel (if falling then 1 else 0)

/-- RUN or FENCED: TIN_BUSY counts as a loss and triggers are formed (R353, R359). -/
def State.dataPath (s : State) : Bool := decide (s.sys.dev = .run) || decide (s.sys.dev = .fenced)

/-! ### Results (R357, R358) -/

/-- Bytes 16 to 23 of a result: count, kind, flags, input and k (R357). -/
def tinWord2 (n kind count : Nat) (e : Option Edge) (unlocked missed config first : Bool) : Nat :=
  let fl := bnat ((e.map (·.falling)).getD false) * 128 + bnat unlocked * 64 +
    bnat ((e.map (·.interpB)).getD false) * 32 + bnat missed * 16 + bnat config * 8 + bnat first * 4
  count + kind * 2 ^ 32 + fl * 2 ^ 40 + n * 2 ^ 48 + (e.map (·.k.toNat)).getD 0 * 2 ^ 56

/-- Write a result of input `n` (R357, R358); an unlocked measurement counts in UnlockedResults (R350). -/
def State.tinResult (s : State) (n kind : Nat) (time : Tw) (value : BitVec 64) (count : Nat) (e : Option Edge)
    (unlocked missed config first : Bool) : State :=
  let x := s.tin n
  let s := s.setTin n { x with resultNo := x.resultNo + 1 }
  let s := s.setStat (kTinLastResult0 n) time.toNat
  let s := s.setStat (kTinLastResult1 n) value.toNat
  let s := s.setStat (kTinLastResult2 n) (tinWord2 n kind count e unlocked missed config first)
  let s := s.setStat (kTinLastResult3 n) x.resultNo.toNat
  (s.bump (kTinResultsWritten n)).bump (kTinUnlockedResults n) (bnat unlocked)

/-- A trigger of input `n` at a time whose TriggerAlign low bits are cleared, formed in RUN and FENCED (R359). -/
def State.tinTrigger (s : State) (n : Nat) (t : Tw) : State :=
  if s.dataPath then
    let k := s.confAt (sliceOf t) (cTinTriggerAlign n)
    (s.raise .tin n (s.confAt (sliceOf t) (cTinTriggerClass n)) (BitVec.ofNat 64 (t.toNat / 2 ^ k * 2 ^ k))).bump
      (kTinTriggersRaised n)
  else s

/-! ### Edges and interpolators (R350, R353) -/

/-- An interpolator is free for an edge of raw time `c`. -/
def interpFree (busy : Option Int) (c : Int) : Bool :=
  match busy with
  | none => true
  | some b => decide ((interpBusy : Int) ≤ c - b)

/-- The interpolator that takes an edge of raw time `c`: true is B; `useA` and `useB` say that InterpolatorUse admits A and B
(R353). -/
def Tin.assign (x : Tin) (useA useB : Bool) (c : Int) : Option Bool :=
  let a := interpFree x.busyA c && useA
  let b := interpFree x.busyB c && useB
  if x.lastB then (if a then some false else if b then some true else none)
  else (if b then some true else if a then some false else none)

/-- The input with an interpolator taken by an edge of raw time `c`. -/
def Tin.take (x : Tin) (isB : Bool) (c : Int) : Tin :=
  if isB then { x with busyB := some c, lastB := true } else { x with busyA := some c, lastB := false }

/-- The raw time of an edge, its 4 fu step centred (R350). -/
def edgeRaw (r : BitVec 64) (k : BitVec 8) : BitVec 64 := r - BitVec.ofNat 64 (4 * k.toNat) + 2#64

/-- `a` is handled before `b`: by time, then by rank (R355). -/
def Edge.le (a b : Edge) : Bool :=
  decide (twDiff a.te b.te < 0) || (decide (a.te = b.te) && decide (a.rank ≤ b.rank))

/-- Queue an event of input `n` in the order of handling. -/
def State.queueEdge (s : State) (n : Nat) (e : Edge) : State :=
  let x := s.tin n
  let l := x.edges.takeWhile (fun f => f.le e)
  s.setTin n { x with edges := l ++ e :: x.edges.drop l.length }

/-- The start of the gate under way at slice `m`: the last multiple of GatePeriod (R356). -/
def State.gateAt (s : State) (n m : Nat) : Nat := m / s.confAt m (cTinGatePeriod n) * s.confAt m (cTinGatePeriod n)

/-- The result of the gate that ends at slice `b` (R356): FREQUENCY, or NO_EDGE when its edge did not come. -/
def State.endGate (s : State) (n b : Nat) : State :=
  let x := s.tin n
  match x.fResult with
  | some r => (s.setTin n { x with fResult := none }).tinResult n 4 r.edge.te r.value r.count (some r.edge)
      r.edge.unlocked false false r.first
  | none => if x.fWant then s.tinResult n 5 (sliceStart b) 0#64 0 none false false false false else s

/-- Begin the gate at slice `b`, when it is a later one than the gate under way (R356). -/
def State.turnGate (s : State) (n b : Nat) : State :=
  let x := s.tin n
  if x.fGate = b + 1 || (decide (x.fGate ≠ 0) && !sliceLt (x.fGate - 1) b) then s
  else
    let s := if x.fWant || x.fResult.isSome then s.endGate n b else s
    s.setTin n { s.tin n with fGate := b + 1, fWant := true }

/-- A selected edge of a FREQUENCY input (R356): every Prescale-th, counted since the mode was set, is a prescaled one. -/
def State.freqEdge (s : State) (n m : Nat) : State × Bool :=
  let x := s.tin n
  let k := x.fEdges + 1
  if k % s.confAt m (cTinPrescale n) = 0 then (s.setTin n { x with fEdges := k, fCount := x.fCount + 1 }, true)
  else (s.setTin n { x with fEdges := k }, false)

/-- Subindices `subs` of input `n` differ between two configurations. -/
def tinChanged (a b : Tab Nat) (n : Nat) (subs : List Nat) : Bool :=
  subs.any (fun k => decide (Tab.get (keyDefault (key (0x4100 + n) k)) a (key (0x4100 + n) k) ≠
    Tab.get (keyDefault (key (0x4100 + n) k)) b (key (0x4100 + n) k)))

/-- The frequency counts of input `n` begin anew at commit slice `c`, unless an edge of the new epoch has begun them (R354,
R356): the measured edge that a span begins at is gone, and the edges are counted anew where the commit sets the mode. -/
def State.freqRestart (s : State) (c : Nat) (a b : Tab Nat) (n : Nat) : State :=
  if !tinChanged a b n [1, 9, 10] || decide ((s.tin n).fFrom = some c) then s
  else
    let s := if (s.tin n).fResult.isSome then s.endGate n c else s
    let p := Tab.get 1024 b (cTinGatePeriod n).key
    let x := s.tin n
    s.setTin n { x with
      fEdges := if tinChanged a b n [1] then 0 else x.fEdges
      fCount := 0, fLast := none, fResult := none, fWant := false, fGate := (c - 1) / p * p + 1, fFrom := some c }

/-- A selected edge of a FREQUENCY input, with its time in slice `m` (R354, R356); it is to be measured when it is the first
prescaled edge at or after the boundary of its gate. An edge of the time before the latest commit of the input's mode, Prescale
or GatePeriod is not counted with those after it. -/
def State.freqCount (s : State) (n m : Nat) : State × Bool :=
  let s := match s.cfg.pending with
    | some (c, t) => if sliceLe c m then s.freqRestart c s.cfg.epoch t n else s
    | none => s
  if (match (s.tin n).fFrom with | some c => sliceLt m c | none => false) then (s, false)
  else
    let b := s.gateAt n m
    let r := (s.turnGate n b).freqEdge n m
    (r.1, r.2 && (r.1.tin n).fWant && decide ((r.1.tin n).fGate = b + 1))

/-- The first prescaled edge of a gate, measured (R356); an unlocked measurement makes the next one a FIRST. -/
def State.freqMeasure (s : State) (n : Nat) (e : Edge) : State :=
  let x := s.tin n
  let r : FreqResult := match x.fLast with
    | none => ⟨e, 0#64, 0, true⟩
    | some t => ⟨e, e.te - t, x.fCount % 2 ^ 32, false⟩
  s.setTin n { x with fResult := some r, fWant := false, fCount := 0, fLast := if e.unlocked then none else some e.te }

/-- The events that a measured edge of input `n` queues, given the slice of its time (R352, R354, R355). -/
def State.queueMeasured (s : State) (n m : Nat) (e : Edge) : State :=
  let own := s.confAt m (cTinMode n)
  let sel := selects (s.confAt m (cTinEdge n)) e.falling
  let gates := (s.gatesOf m n).filter (fun g => selects (s.confAt m (cTinStopEdge g)) e.falling)
  let s := gates.foldl (fun (s : State) g => s.queueEdge g { e with kind := .stop, rank := if g = n then 1 else 2 }) s
  let s := if own = 1 ∧ sel = true then s.queueEdge n { e with kind := .stamp, rank := 1 } else s
  if own = 2 ∧ sel = true then
    s.queueEdge n { e with kind := .start, rank := if s.confAt m (cTinStopInput n) = n then 2 else 1 } else s

/-- An edge that no interpolator takes (R353): `t` is its coarse time. -/
def State.busyEdge (s : State) (n : Nat) (t : Tw) (falling : Bool) : State :=
  let m := sliceOf t
  let s := s.bump (kTinBusyEdges n)
  let s := if s.dataPath then s.lose .tinBusy 1 m (0x0100 + n) else s
  let gates := (if s.confAt m (cTinMode n) = 2 then [n] else []) ++ (s.gatesOf m n).filter (fun g => g ≠ n)
  gates.foldl (fun (s : State) g => s.queueEdge g ⟨.busy, 3, t, falling, false, 0#8, false⟩) s

/-- The coincidence count that an interpolator's measurement uses: 128 while it is not locked (R350). -/
def Tin.kOf (x : Tin) (isB : Bool) (k : BitVec 8) : BitVec 8 := if (if isB then x.lockB else x.lockA) then k else 128#8

/-- The time te of an edge of input `n` with count `k` (R350); Offset is that of the slice of its raw time. -/
def State.edgeTime (s : State) (n : Nat) (falling : Bool) (r : BitVec 64) (k : BitVec 8) : Tw :=
  let c := edgeRaw r k - BitVec.ofInt 64 (Config.tinLatency n falling)
  s.tb.tw c + BitVec.ofInt 64 (signed 32 (s.confAt (sliceOf (s.tb.tw c)) (cTinOffset n)))

/-- TIN_EDGE: an edge at input `n`, whose slow ring met the timing-clock edge `cycle` of this tick after `k` cycles
(R350, R353). An edge that nothing selects, or that falls while the receivers are off, has no effect. -/
def execTinEdge (dt : Nat) (n : TinId) (falling : Bool) (cycle : Fin 8) (k : BitVec 8) (s : State) :
    Host.Outcome State Fault Refusal :=
  let s := s.elapse dt
  let x := s.tin n.val
  let r := s.tb.c + BitVec.ofNat 64 (1024 * cycle.val)
  let raw : Int := (tickFu * s.tb.up + 1024 * cycle.val : Nat) - 4 * (k.toNat : Int) + 2
  let teOf := fun isB => s.edgeTime n.val falling r (x.kOf isB k)
  let use := fun isB => s.confAt (sliceOf (teOf isB)) cInterpolatorUse
  let pick := x.assign (decide (use false ≠ 2)) (decide (use true ≠ 1)) raw
  let te := (pick.map teOf).getD (s.tb.tw r)
  let m := sliceOf te
  let mode := s.confAt m (cTinMode n.val)
  let on := s.inputsOn && (decide (mode ≠ 0) || !(s.gatesOf m n.val).isEmpty)
  let freqSel := decide (mode = 3) && selects (if s.confAt m (cTinEdge n.val) = 2 then 2 else 1) falling
  let stop := (s.gatesOf m n.val).any (fun g => selects (s.confAt m (cTinStopEdge g)) falling)
  let direct := stop || (decide (mode = 1 ∨ mode = 2) && selects (s.confAt m (cTinEdge n.val)) falling)
  .next <|
    if !on then s
    else
      let fr := if freqSel then s.freqCount n.val m else (s, false)
      let s := fr.1
      if !direct && !fr.2 then s
      else
        match pick with
        | none => s.busyEdge n.val te falling
        | some isB =>
          let e : Edge := ⟨.stamp, 0, te, falling, isB, x.kOf isB k, !(if isB then x.lockB else x.lockA)⟩
          let s := (s.setTin n.val ((s.tin n.val).take isB raw)).bump64 (kTinEdges n.val)
          let s := if fr.2 then s.freqMeasure n.val e else s
          s.queueMeasured n.val m e

/-! ### Handling (R355) -/

/-- The pending start of input `n` ends with a TIMEOUT result of value `v`; `config` marks one that a commit ends. -/
def State.gateTimeout (s : State) (n : Nat) (p : GateStart) (v : BitVec 64) (config : Bool) : State :=
  let s := s.setTin n { s.tin n with pending := none }
  (s.tinResult n 3 p.edge.te v 0 (some p.edge) p.edge.unlocked p.missed config false).bump (kTinTimeouts n)

/-- The pending start of input `n` ends by its timeout when that falls at or before time `t`. -/
def State.timeoutUpTo (s : State) (n : Nat) (t : Tw) : State :=
  match (s.tin n).pending with
  | some p => if notAfter (p.edge.te + BitVec.ofNat 64 p.timeout) t then
      s.gateTimeout n p (BitVec.ofNat 64 p.timeout) false else s
  | none => s

/-- A stop edge (R355, R359). -/
def State.gateStop (s : State) (n : Nat) (e : Edge) : State :=
  match (s.tin n).pending with
  | none => s.bump (kTinStopUnpaired n)
  | some p =>
    let s := s.setTin n { s.tin n with pending := none }
    let v := e.te - p.edge.te
    let m := sliceOf e.te
    let s := s.tinResult n 2 p.edge.te v 0 (some p.edge) (p.edge.unlocked || e.unlocked) p.missed false false
    if s.confAt m (cTinRoute n) = 2 ∧ p.missed = false ∧ s.confAt m (cTinIntervalMin n) ≤ v.toNat ∧
        v.toNat < s.confAt m (cTinIntervalMax n) then s.tinTrigger n e.te else s

/-- A start edge (R355). -/
def State.gateStart (s : State) (n : Nat) (e : Edge) : State :=
  match (s.tin n).pending with
  | some _ => s.bump (kTinStartIgnored n)
  | none => s.setTin n { s.tin n with
      pending := some ⟨e, false, s.confAt (sliceOf e.te) (cTinTimeout n)⟩ }

/-- The event at the front of input `n`'s queue (R355, R357, R359). -/
def State.handleEdge (s : State) (n : Nat) (e : Edge) : State :=
  match e.kind with
  | .stamp =>
    let s := s.tinResult n 1 e.te 0#64 0 (some e) e.unlocked false false false
    if s.confAt (sliceOf e.te) (cTinRoute n) = 1 then s.tinTrigger n e.te else s
  | .start => (s.timeoutUpTo n e.te).gateStart n e
  | .stop => (s.timeoutUpTo n e.te).gateStop n e
  | .busy =>
    let s := s.timeoutUpTo n e.te
    match (s.tin n).pending with
    | some p => s.setTin n { s.tin n with pending := some { p with missed := true } }
    | none => s
  | .config =>
    let s := s.timeoutUpTo n e.te
    match (s.tin n).pending with
    | some p => s.gateTimeout n p (e.te - p.edge.te) true
    | none => s

/-- TIN_EDGE_HANDLED: the earliest event of input `n`, 1 µs after its time (R355); a timestamp is handled as soon as it
is measured (R359). -/
def execTinEdgeHandled (dt : Nat) (n : TinId) (s : State) : Host.Outcome State Fault Refusal :=
  let s := s.elapse dt
  .next <|
    match (s.tin n.val).edges with
    | [] => s
    | e :: es =>
      if e.kind = .stamp ∨ notAfter (e.te + BitVec.ofNat 64 handleDelay) s.now = true then
        (s.setTin n.val { s.tin n.val with edges := es }).handleEdge n.val e
      else s

/-- GATE_TIMEOUT: the handling time reaches the start plus Timeout plus 1 µs, and no earlier edge waits (R355). -/
def execGateTimeout (dt : Nat) (n : TinId) (s : State) : Host.Outcome State Fault Refusal :=
  let s := s.elapse dt
  .next <|
    match (s.tin n.val).pending with
    | none => s
    | some p =>
      let t := p.edge.te + BitVec.ofNat 64 p.timeout
      if notAfter (t + BitVec.ofNat 64 handleDelay) s.now && !(s.tin n.val).edges.any (fun e => before e.te t) then
        s.gateTimeout n.val p (BitVec.ofNat 64 p.timeout) false
      else s

/-- FREQUENCY_GATE: a gate boundary of input `n` (R356). -/
def execFrequencyGate (dt : Nat) (n : TinId) (s : State) : Host.Outcome State Fault Refusal :=
  let s := s.elapse dt
  .next (if s.inputsOn && decide (s.confAt s.slice (cTinMode n.val) = 3) then s.turnGate n.val (s.gateAt n.val s.slice)
    else s)

/-! ### Commits (R354, R356) -/

/-- Input `n` at the commit slice `c`, by the configurations before and after: a pending start ends with CONFIG when its
gate changes (R355), and the frequency counts begin anew (R356). -/
def State.tinCommit (s : State) (c : Nat) (a b : Tab Nat) (n : Nat) : State :=
  let stop := Tab.get 0 a (cTinStopInput n).key
  let gate := decide (Tab.get 0 a (cTinMode n).key = 2) &&
    (tinChanged a b n [1, 2, 3, 4, 5, 6, 7, 8, 9, 10] || tinChanged a b stop [1, 7])
  let s := if gate then s.queueEdge n ⟨.config, 0, sliceStart c, false, false, 0#8, false⟩ else s
  s.freqRestart c a b n

/-- An interpolator gains or loses its lock (R349, R361, R362). -/
def State.interpLock (s : State) (n : Nat) (b locked : Bool) : State :=
  let x := s.tin n
  if (if b then x.lockB else x.lockA) == locked then s
  else
    let s := s.setTin n (if b then { x with lockB := locked } else { x with lockA := locked })
    let s := s.bump kLockLosses (bnat (!locked))
    s.journal (if locked then 0x0902 else 0x0901) n (jdata [(0, bnat b)])

/-- Every input at a commit; an unpowered PD43 holds no lock (R349). -/
def State.tinsCommit (s : State) (c : Nat) (a b : Tab Nat) : State :=
  let s := (List.range 32).foldl (fun (s : State) n => s.tinCommit c a b n) s
  if s.timerPower then s
  else (List.range 32).foldl (fun (s : State) n => (s.interpLock n false false).interpLock n true false) s

/-- INTERP_LOCK_CHANGE: an interpolator gains or loses its lock while PD43 is powered (R349, R361). -/
def execInterpLockChange (dt : Nat) (n : TinId) (b : Bool) (locked : Bool) (s : State) :
    Host.Outcome State Fault Refusal :=
  let s := s.elapse dt
  .next (if s.timerPower then s.interpLock n.val b locked else s)

end Sys2Proof.Machine
end

