-- ==== Sys2Proof/Machine/Uplink.lean ====
section
/-! DEFINITION. The words of an uplink DATA frame (R81 to R83, R98 to R102, R114, R122), and the frames that a follower
holds while it waits for a delay step of its partner (R118, R327, R329). -/

namespace Sys2Proof.Machine

/-- The EffectiveLowPower of a port (R93): DEEP only with its whole group, otherwise IDLE permission where the partner
supports IDLE. -/
def State.effectiveLow (s : State) (p : Nat) : Nat :=
  match s.conf (cPortLowPower p) with
  | 2 =>
    if (groupPorts (p / 8)).all (fun q => decide (s.conf (cPortLowPower q) = 2) || !s.portEnabled q) then 2
    else bnat (bit (s.port p).flags 1)
  | v => v

/-! ### Acceptance (R122) -/

/-- The DA for the frames of a port: none while a follower misses it (R118, R329). -/
def State.daOf (s : State) (x : Port) : Option Int :=
  if x.timing.missing && s.twin.following then none else x.timing.da

/-- A hit word or header without DA (R122 step 2, R329). -/
def State.noDa (s : State) (p : Nat) : State :=
  if (s.port p).timing.missing && s.twin.following then s.bump kDaMissingHits else s.bump (kPortStartDiscard p)

/-- Steps 3 to 7 of R122 for a word with provisional time `tp`: the corrected time where the word is accepted. -/
def State.acceptTime (s : State) (p chan : Nat) (tp ta : Tw) : State × Option Tw :=
  let x := s.port p
  let e := s.confAt (sliceOf tp) ⟨chanKey p chan, 0⟩
  if x.channels ≤ chan then ((s.lose .horizon 1 (sliceOf ta) p).bump (kPortChannelUnknown p), none)
  else if bit e 31 then (s.bump (kPortMaskedDiscard p), none)
  else if (match x.start with | some n => before tp (sliceStart n) | none => true) then
    (s.bump (kPortStartDiscard p), none)
  else if (match x.disableAt with | some n => !before tp (sliceStart n) | none => false) then
    (s.bump (kPortDisabledDiscard p), none)
  else
    let t := tp + BitVec.ofInt 64 (signed 24 e)
    let r := s.horizonCheck p (sliceOf tp) t ta
    (r.1, if r.2 then some t else none)

/-- A hit word or waveform header through R122: the corrected time where it is accepted. -/
def State.acceptWord (s : State) (p : Nat) (w : Word) (ta : Tw) : State × Option Tw :=
  match s.daOf (s.port p) with
  | none => if s.sys.dev = .standstill then (s.bump (kPortStandstillDiscard p), none) else (s.noDa p, none)
  | some da =>
    let tp := extend ta da (localTime w)
    if s.sys.dev = .standstill ∧ !s.inRun (sliceOf tp) then (s.bump (kPortStandstillDiscard p), none)
    else s.acceptTime p (wbits w 49 12) tp ta

/-- Count one word of arrival sequence (R23). -/
def State.arrive (s : State) : State := { s with hist := { s.hist with arrivals := s.hist.arrivals + 1 } }

/-- A hit word (R81, R122, R123). -/
def State.hitWord (s : State) (p : Nat) (w : Word) (ta : Tw) : State :=
  let r := s.acceptWord p w ta
  match r.2 with
  | some t => r.1.mergeHit ⟨t, p, wbits w 49 12, 0#4, BitVec.ofNat 20 (wbits w 0 12), r.1.hist.arrivals⟩ ta
  | none => r.1

/-- A waveform header (R81, R82, R122); a header that announces no continuation word breaks the layout (log entry 17). -/
def State.headerWord (s : State) (p : Nat) (w : Word) (ta : Tw) : State :=
  let need := wbits w 0 8
  if need = 0 then s.bump (kPortProtocolErrors p)
  else
    let r := s.acceptWord p w ta
    let k : Packet := ⟨p, wbits w 49 12, r.2.getD ta, need, [], r.2.isNone, ta, 0, r.1.hist.arrivals⟩
    r.1.setPort p { r.1.port p with packet := some k }

/-- A continuation word (R82, R198); one that follows no header is a protocol error (log entry 17). -/
def State.continuation (s : State) (p : Nat) (w : Word) (ta : Tw) : State :=
  let x := s.port p
  match x.packet with
  | some k =>
    let k := { k with words := k.words ++ [w], ta := ta }
    if k.words.length < k.need then s.setPort p { x with packet := some k }
    else
      let s := s.setPort p { x with packet := none }
      if k.skip then s else s.packetDone k
  | none =>
    match x.skip with
    | 1 => s
    | 2 => (s.setPort p { x with skip := 1 }).bump (kPortProtocolErrors p)
    | _ => s.bump (kPortProtocolErrors p)

/-- A status word (R83, R95). An IDLE_ENTER of a partner that does not support IDLE counts as one under LowPower 0 (DESIGN
CHOICE, log entry 48). -/
def State.statusWord (s : State) (p : Nat) (w : Word) : State :=
  let v := wbits w 0 32
  match wbits w 56 5 with
  | 0 => s.setStat (kPortPartnerWithheld p) v
  | 1 => s.setStat (kPortPartnerDropped p) v
  | 2 =>
    let x := s.port p
    if s.effectiveLow p = 0 ∨ x.version ≠ 2 then s.bump (kPortProtocolErrors p)
    else s.setPort p { x with st := .idle, since := s.tb.c, goodRun := 0, timing := x.timing.hold }
  | 3 => s.setStat (kPortPartnerTemp p) (v % 65536)
  | code => s.setStat (kPortPartnerStatus p) (code * 2 ^ 32 + v)

/-- A marker echo with its capture (R112 to R115). -/
def State.echoWord (s : State) (p : Nat) (w : Word) (c : EchoCapture) : State :=
  let x := s.port p
  let r := x.timing.echo (s.timingConf p) (decide (x.st = .active)) w (s.tb.te c (Config.uplinkLatency p)) (echoTick c s.tb.c)
  let s := s.setPort p { x with timing := r.1 }
  match r.2 with
  | .ignored => s
  | .rejected l => (s.bump (kPortEchoRejected p)).bump (kPortLocalTimeMismatch p) (bnat l)
  | .accepted => s.bump (kPortEchoAccepted p)

/-- The words that count as data for R102: hits and waveform words. -/
def isData (w : Word) : Bool := decide (wbits w 61 3 = 1) || decide (wbits w 61 3 = 2) || decide (wbits w 61 3 = 3)

/-- A word that interrupts a packet (R82). -/
def State.interrupt (s : State) (p : Nat) : State :=
  let s := s.breakPacket p
  s.setPort p { s.port p with skip := 0 }

/-- One word of a DATA frame but an echo (R81, R82): fill interrupts nothing. A capability word, which is valid only in CAP
frames, counts as a reserved one (DESIGN CHOICE, log entry 48). -/
def State.word (s : State) (p : Nat) (w : Word) (ta : Tw) : State :=
  match wbits w 61 3 with
  | 0 => s
  | 1 => (s.interrupt p).arrive.hitWord p w ta
  | 2 =>
    if (s.port p).version = 1 then s.bump (kPortProtocolErrors p) else (s.interrupt p).arrive.headerWord p w ta
  | 3 => if (s.port p).version = 1 then s.bump (kPortProtocolErrors p) else s.continuation p w ta
  | 4 => (s.interrupt p).statusWord p w
  | 5 => s.interrupt p
  | _ => (s.interrupt p).bump (kPortProtocolErrors p)

/-- The words of a DATA frame in order; each echo takes the next capture. -/
def State.dataWords (s : State) (p : Nat) (ta : Tw) : List Word → List EchoCapture → State
  | [], _ => s
  | w :: ws, cs =>
    let s := s.word p w ta
    if wbits w 61 3 = 5 then
      match cs with
      | c :: cs' => State.dataWords (s.echoWord p w c) p ta ws cs'
      | [] => State.dataWords s p ta ws []
    else State.dataWords s p ta ws cs

/-- The echoes of a frame whose other words are held (R329). -/
def State.echoWords (s : State) (p : Nat) : List Word → List EchoCapture → State
  | [], _ => s
  | w :: ws, cs =>
    if wbits w 61 3 = 5 then
      match cs with
      | c :: cs' => State.echoWords (s.echoWord p w c) p ws cs'
      | [] => State.echoWords s p ws []
    else State.echoWords s p ws cs

/-- A DATA frame that began later than the BUSY response and still holds data words (R102); its `bits` wire bits took 102.4 fu
each (log entry 18). -/
def State.busyCheck (s : State) (p : Nat) (ta : Tw) (bits : Nat) (ws : List Word) : State :=
  let x := s.port p
  match x.busySince with
  | some b =>
    if ws.any isData && decide (5 * (8192 * (x.busyResponse : Int)) + bits * 512 < 5 * twDiff ta b) then
      s.bump (kPortBusyOverrun p)
    else s
  | none => s

/-- UPLINK_DATA: a DATA frame received whole (R81 to R83, R88, R122); `echoes` captures its echo words in order. -/
def execUplinkData (dt : Nat) (p : PortId) (sub : Nat) (wire : List Bool) (echoes : List EchoCapture) (s : State) :
    Host.Outcome State Fault Refusal :=
  .next <| (s.elapse dt).frameRow (.port p) wire (· == 1) (fun s f =>
    let ta := s.nowAt sub
    let r := s.frameIn (.port p) sub wire f
    if r.2 then
      let s := r.1.busyCheck p.val ta wire.length f.words
      let x := s.port p.val
      let s := if x.timing.waiting.isSome then
          (s.setPort p.val { x with held := x.held ++ [⟨ta, x.timing.f, f.words⟩] }).echoWords p.val f.words echoes
        else s.dataWords p.val ta f.words echoes
      s.endFrame p.val
    else r.1)

/-! ### Held frames (R329) -/

/-- The delay step of a held frame: at a step of the grid whose DA is expected and not held, the wait begins anew. -/
def State.heldStep (s : State) (p f : Nat) : State :=
  let x := s.port p
  match Tab.look x.timing.forwarded f with
  | some da => s.setPort p { x with timing := x.timing.takeForwarded f da }
  | none =>
    if decide (f % 512 = 0) && ({ x.timing with f := f }).expectsDa then
      s.setPort p { x with timing := { x.timing with waiting := some f } }
    else s

/-- Process held frames in order, up to the next step whose DA is not held. -/
def State.replayHeld (s : State) (p : Nat) : List HeldFrame → State
  | [] => s.setPort p { s.port p with held := [] }
  | h :: hs =>
    let s := s.heldStep p h.f
    if (s.port p).timing.waiting.isSome then s.setPort p { s.port p with held := h :: hs }
    else State.replayHeld (s.dataWords p h.ta h.words []) p hs

/-- Go on after the wait for step `f` has ended: the frame of that step makes no second step. -/
def State.resume (s : State) (p f : Nat) : State :=
  match (s.port p).held with
  | [] => s
  | h :: hs => if h.f = f then (s.dataWords p h.ta h.words []).replayHeld p hs else s.replayHeld p (h :: hs)

/-- The partner's DA for a port from frame `frame` on (R118, R327, R329). It ends a wait for that step. A wait off the grid, for
the first step, ends with any DA: the partner made its first step at another frame. A first DA whose frame has passed acts at
once; any other is kept until its frame comes. -/
def State.takeDelay (s : State) (p frame : Nat) (da : Int) : State :=
  let x := s.port p
  let t := x.timing
  match t.waiting with
  | some f =>
    if f = frame then (s.setPort p { x with timing := t.takeForwarded frame da }).resume p f
    else
      let t := { t with forwarded := Tab.put t.forwarded frame da }
      if f % 512 = 0 then s.setPort p { x with timing := t }
      else
        let t := { t with waiting := none }
        (s.setPort p { x with timing := if frame < f then t.takeForwarded frame da else t }).resume p f
  | none =>
    if decide (frame < t.f) && t.da.isNone && !t.missing then
      s.setPort p { x with timing := t.takeForwarded frame da }
    else s.setPort p { x with timing := { t with forwarded := Tab.put t.forwarded frame da } }

/-- The wait for the DELAY of a step has lasted MizzenWait slices, from the arrival of the first held frame (R329). -/
def State.daWaitOver (s : State) (x : Port) : Bool :=
  match x.held with
  | h :: _ => notAfter (h.ta + BitVec.ofNat 64 (s.conf cMizzenWait * sliceFu)) s.now
  | [] => true

/-- DA_WAIT_EXPIRY: hits are discarded until a step whose DA is held; DA_MISSING is journalled once per run (R329, R343). -/
def execDaWaitExpiry (dt : Nat) (p : PortId) (s : State) : Host.Outcome State Fault Refusal :=
  let s := s.elapse dt
  let x := s.port p.val
  .next <|
    match x.timing.waiting with
    | none => s
    | some f =>
      if !s.daWaitOver x then s
      else
        let s := if x.timing.missing then s else s.journal 0x080B p.val (jdata [(0, f)])
        (s.setPort p.val { x with timing := { x.timing with waiting := none, missing := true } }).resume p.val f

end Sys2Proof.Machine
end

