-- ==== Sys2Proof/Machine/Dict.lean ====
section
/-! DEFINITION. What a read of each object returns (R283, R302 to R304, R307, R308, R310): identity, live state, staging,
objects that act at once, and counters. -/

namespace Sys2Proof.Machine

/-! ### Numbers of states, as the object tables give them -/

/-- The number of a link state (R108). -/
def LinkState.num : LinkState → Nat
  | .disabled => 0 | .detect => 1 | .train => 2 | .lock => 3 | .exchange => 4 | .active => 5 | .idle => 6 | .deep => 7
  | .loop => 8 | .quarantine => 9

/-- The number of a delay state (R116). -/
def DelayState.num : DelayState → Nat
  | .none => 0 | .acquiring => 1 | .tracking => 2 | .hold => 3 | .fixed => 4

/-- The number of a servo state (R58). -/
def ServoState.num : ServoState → Nat
  | .freerun => 0 | .aligning => 1 | .acquiring => 2 | .locked => 3 | .holdover => 4 | .refusing => 5

/-- The number of a frequency source (R72). -/
def FreqSource.num : FreqSource → Nat
  | .refclk => 0 | .synce => 1 | .holdClk => 2

/-- The number of a generator state (R72). -/
def PulseState.num : PulseState → Nat
  | .idle => 0 | .armed => 1 | .running => 2 | .done => 3 | .late => 4 | .tooFar => 5

/-- The number of a core state (R216). -/
def CoreState.num : CoreState → Nat
  | .off => 0 | .loading => 1 | .idle => 2 | .busy => 3 | .noImage => 4

/-- The number of a transport (R298). -/
def Transport.num : Transport → Nat
  | .mailbox => 1 | .canA => 2 | .canB => 3

/-- SequenceState (R388). -/
def Monitor.seqState (m : Monitor) : Nat :=
  match m.phase with
  | .off | .waiting | .idle => 0
  | .checking => 3
  | .settling | .converting => if m.injected then 2 else 1

/-! ### Sets of configuration (R283) -/

/-- The set that staging is compared with: pending while a commit waits, otherwise the epoch set (R286, R298). -/
def State.baseSet (s : State) : Tab Nat :=
  match s.cfg.pending with
  | some p => p.2
  | none => s.cfg.epoch

/-- The keys at which two sets differ. -/
def diffKeys (a b : Tab Nat) : List Nat :=
  (a.filter (fun e => Tab.look b e.1 ≠ some e.2)).map Prod.fst ++ (b.filter (fun e => Tab.look a e.1 = none)).map Prod.fst

/-- ShadowState.1 (R298). -/
def State.shadowState (s : State) : Nat :=
  bnat (!(diffKeys s.cfg.staging s.baseSet).isEmpty) + 2 * bnat s.cfg.pending.isSome

/-- The node number (R270, R412): from the NODE straps; 127 where they read 0. -/
def State.ownNode (s : State) : Nat := if s.sys.straps.toNat % 128 = 0 then 127 else s.sys.straps.toNat % 128

/-! ### The flash (R292) -/

/-- Of two copies the valid one with the higher generation. -/
def newer {α : Type} (gen : α → BitVec 32) (a b : Option α) : Option α :=
  match a, b with
  | some x, some y => if (gen x).toNat < (gen y).toNat then some y else some x
  | some x, none => some x
  | none, y => y

/-- The copy that is not in use is copy 1: copy 0 is valid and not older. -/
def spareIsOne {α : Type} (gen : α → BitVec 32) (a b : Option α) : Bool :=
  match a, b with
  | some x, some y => decide ((gen y).toNat ≤ (gen x).toNat)
  | some _, none => true
  | none, _ => false

/-- The store copy in force (R292, R293). -/
def Cfg.store (g : Cfg) : Option StoreCopy := newer (·.generation) g.store0 g.store1

/-- Put a store copy in the place of the one that is not in use; none while it is being written (R292). -/
def Cfg.putStore (g : Cfg) (c : Option StoreCopy) : Cfg :=
  if spareIsOne (·.generation) g.store0 g.store1 then { g with store1 := c } else { g with store0 := c }

/-- The boot directory in force (R292). -/
def Cfg.dir (g : Cfg) : Option DirCopy := newer (·.generation) g.dir0 g.dir1

/-- PreferredSlot goes at once into the copy of the boot directory that is not in use (R292, R298). -/
def Cfg.prefer (g : Cfg) (slot : Nat) : Cfg :=
  let c : DirCopy := ⟨((g.dir.map (·.generation)).getD 0#32) + 1, slot⟩
  if spareIsOne (·.generation) g.dir0 g.dir1 then { g with dir1 := some c } else { g with dir0 := some c }

/-- The slot that a BOOT tries first: that of the directory, or, where no copy of it is valid, that of the store (R295; log
entry 9). -/
def Cfg.firstSlot (g : Cfg) : Nat :=
  match g.dir with
  | some d => d.preferred
  | none => (g.store.map (fun c => Tab.get cPreferredSlot.dflt c.imm cPreferredSlot.key)).getD cPreferredSlot.dflt

/-! ### Live values by block -/

/-- A session's word (R298). -/
def State.sessionWord (s : State) (k : Nat) : Nat :=
  match s.session k with
  | none => 0
  | some x => x.client.toNat * 2 ^ 32 + x.expected.toNat * 2 ^ 16 + x.node * 256 + x.transport.num * 64 +
      bnat x.expert * 32 + bnat (decide (s.cfg.owner = k)) * 16 + x.mask

/-- Identity (R310). -/
def State.liveIdentity (s : State) (sub : Nat) : Option Nat :=
  match sub with
  | 1 => some Config.vendorId.toNat
  | 3 => some Config.vendorId.toNat
  | 4 => some (if Config.isCodeS then 2 else 1)
  | 7 => some Config.serial.toNat
  | 9 => some Config.manufactureDate.toNat
  | 10 => some (if s.cfg.activeSlot = 0 then s.cfg.versionA.toNat else s.cfg.versionB.toNat)
  | _ => none

/-- Control (R298, R299). -/
def State.liveControl (s : State) (i sub : Nat) : Option Nat :=
  match i, sub with
  | 0x1020, 1 => some s.ctl.jNext
  | 0x1020, 2 => some s.ctl.jCount.toNat
  | 0x1030, 1 => some s.shadowState
  | 0x1030, 2 => some ((s.cfg.pending.map Prod.fst).getD 0)
  | 0x1030, 3 => some (diffKeys s.cfg.staging s.baseSet).length
  | 0x1030, 4 => some s.cfg.owner
  | 0x1030, 7 => some s.cfg.lastCommit
  | 0x1032, 1 => some s.ctl.clampTotal.toNat
  | 0x1033, 0 => some s.cfg.number.toNat
  | 0x1040, 2 => some s.cfg.storeState
  | 0x1040, 3 => some ((s.cfg.store.map (·.generation.toNat)).getD 0)
  | 0x1040, 4 => some ((s.cfg.store.map (·.epoch.toNat)).getD 0)
  | 0x1100, 1 => some s.cfg.activeSlot
  | 0x1100, 3 => some s.cfg.versionA.toNat
  | 0x1100, 4 => some s.cfg.versionB.toNat
  | 0x1100, 7 => some s.cfg.bootImageState
  | 0x2002, 5 => some s.ownNode
  | 0x5000, 1 => some s.ctl.seq.toNat
  | _, _ => none

/-- Device, time and temperatures (R26, R71, R72, R425). -/
def State.liveTime (s : State) (i sub : Nat) : Option Nat :=
  match i, sub with
  | 0x2000, 0 => some s.sys.dev.num
  | 0x2100, 0 => some s.now.toNat
  | 0x2101, 1 => some (bnat s.tb.anchorValid)
  | 0x2101, 2 => some s.tb.anchorTw.toNat
  | 0x2101, 3 => some s.tb.anchorSec
  | 0x2101, 4 => some s.tb.anchorNs
  | 0x5100, 1 => some s.tb.servo.num
  | 0x5100, 2 => some (match s.tb.steering with | some e => e.val | none => 255)
  | 0x5100, 4 => some (rawInt s.tb.f)
  | 0x5100, 5 => some s.tb.source.num
  | 0x7010, 1 => some s.sys.die.toNat
  | 0x7010, 2 => some s.sys.stack0.toNat
  | 0x7010, 3 => some s.sys.stack1.toNat
  | 0x7010, 5 => some s.sys.straps.toNat
  | _, _ => none

/-- A generator (R72). -/
def State.liveGen (s : State) (n sub : Nat) : Option Nat :=
  match sub with
  | 1 => some (s.gen n).state.num
  | 3 => some (((s.gen n).nextTime.map (·.toNat)).getD 0)
  | _ => none

/-- A port (R108, R121); in DEEP its delays are those that it had before (R308). -/
def State.livePort (s : State) (p sub : Nat) : Option Nat :=
  let x := s.port p
  if x.st = .deep ∧ 43 ≤ sub ∧ sub ≤ 45 then none
  else
  match sub with
  | 16 => some x.st.num
  | 17 => some x.version
  | 18 => some x.channels
  | 19 => some x.flags
  | 20 => some x.turnaround
  | 37 => some (s.effectiveLow p)
  | 42 => some x.timing.ds.num
  | 43 => some (rawInt (x.timing.da.getD 0))
  | 44 => some (rawInt x.timing.shown)
  | 45 => some (rawInt (s.uplinkDelay p))
  | _ => none

/-- Merge and history (R158). -/
def State.liveHistory (s : State) (i sub : Nat) : Option Nat :=
  match i, sub with
  | 0x5401, 1 => some s.mergeFill
  | 0x5401, 2 => some s.hist.highWater
  | 0x5402, 1 => some s.hist.oldest
  | 0x5402, 2 => some s.hist.newest
  | 0x5402, 3 => some s.hist.firstRun
  | 0x5402, 4 => some (s.hist.head % s.logWords)
  | 0x5402, 5 => some s.headroom
  | 0x5402, 6 => some s.hist.stragHead
  | 0x5402, 7 => some s.hist.lossHead
  | 0x5402, 11 => some (sliceStart s.slice - sliceStart s.hist.oldest).toNat
  | 0x5403, 1 => some s.hist.reef
  | _, _ => none

/-- Triggers and records (R185). -/
def State.liveTrigger (s : State) (sub : Nat) : Option Nat :=
  match sub with
  | 1 => some s.trig.contexts.length
  | 2 => some s.trig.recordSeq.toNat
  | 3 => some s.trig.records.length
  | 11 => some s.trig.records.length
  | 12 => some s.trig.highWater
  | _ => none

/-- A class (R185). -/
def State.liveClass (s : State) (k sub : Nat) : Option Nat :=
  match sub with
  | 29 => some (s.trig.contexts.countP (fun c => decide (c.2.cls = k)))
  | 30 => some (s.cls k).next.toNat
  | _ => none

/-- PairPower (R188, R216). -/
def State.pairPower (s : State) : Nat :=
  ((List.range 12).map (fun k =>
    bnat (decide ((s.core (2 * k)).state ≠ .off) || decide ((s.core (2 * k + 1)).state ≠ .off)) * 2 ^ k)).sum

/-- A core (R216); while it is off QueueFill is what it was before (R308). -/
def State.liveCore (s : State) (g sub : Nat) : Option Nat :=
  let c := s.core g
  match sub with
  | 1 => some c.state.num
  | 2 => some c.imageId.toNat
  | 10 => if c.state = .off then none else some c.pendingBudget
  | _ => none

/-- LeaseRemaining in microseconds (R323, R344). -/
def State.leaseRemaining (s : State) : Nat :=
  match s.twin.lease with
  | none => 0
  | some l => (usFu (s.conf cLeaseTime) - s.since l.renewed) / usFu 1

/-- LastTakeoverAge in seconds (R342, R344). -/
def State.takeoverAge (s : State) : Nat :=
  match s.twin.takeoverC with | some c => (s.tb.up - c) / 125000000 | none => 0xFFFFFFFF

/-- StayLanes: the lanes of the stay link in use (R316, R344). -/
def State.stayLanes (s : State) : Nat :=
  ((List.finRange 4).map (fun l => bnat (s.laneInUse l) * 2 ^ l.val)).sum

/-- ReadyState as others see it: NONE on SOLO and MAINMAST (R320). -/
def State.readyShown (s : State) : Nat := if s.sys.role = .mainmast ∨ s.sys.role = .solo then 0 else s.twin.ready

/-- Host port and twin (R268, R344). -/
def State.liveTwin (s : State) (i sub : Nat) : Option Nat :=
  match i, sub with
  | 0x5700, 1 => some s.host.gen
  | 0x5700, 2 => some s.host.width
  | 0x5700, 11 => some s.transfers
  | 0x2800, 0 => some s.sys.role.num
  | 0x5800, 1 => some s.twin.highest.toNat
  | 0x5800, 2 => some s.leaseRemaining
  | 0x5800, 3 => some s.readyShown
  | 0x5800, 4 => some s.stayLanes
  | 0x5800, 18 => some s.takeoverAge
  | 0x5900, 1 => some (bnat s.timerPower)
  | _, _ => none

/-- Monitor and light drive (R388, R404); while PD45 is off BoostVoltage is what it was before (R308). -/
def State.liveAnalog (s : State) (i sub : Nat) : Option Nat :=
  match i, sub with
  | 0x5A00, 1 => some (bnat s.mon.power)
  | 0x5A00, 2 => some s.mon.seqState
  | 0x5A00, 8 => some (bnat s.mon.trimValid)
  | 0x5A00, 10 => some s.mon.excStatus.toNat
  | 0x5B00, 1 => some (bnat s.lightPower)
  | 0x5B00, 2 => if s.lightPower then some s.light.ledOut else none
  | 0x5B00, 4 => some s.light.faults.toNat
  | _, _ => none

/-- A value that is state rather than a stored object. -/
def State.live (s : State) (i sub : Nat) : Option Nat :=
  if i = 0x1001 then s.liveIdentity sub
  else if i = 0x1010 ∧ 1 ≤ sub ∧ sub ≤ 8 then some (s.sessionWord (sub - 1))
  else if 0x4000 ≤ i ∧ i < 0x40C0 then s.livePort (i - 0x4000) sub
  else if 0x4100 ≤ i ∧ i < 0x4120 then
    if sub = 26 then some (bnat (s.tin (i - 0x4100)).lockA + 2 * bnat (s.tin (i - 0x4100)).lockB) else none
  else if 0x4200 ≤ i ∧ i < 0x4240 then s.liveClass (i - 0x4200) sub
  else if 0x4300 ≤ i ∧ i < 0x4328 then
    if sub = 19 ∧ s.mon.power = true then some (s.rangeOf (i - 0x4300)) else none
  else if 0x5110 ≤ i ∧ i < 0x5120 then s.liveGen (i - 0x5110) sub
  else if 0x5610 ≤ i ∧ i < 0x5628 then s.liveCore (i - 0x5610) sub
  else if i = 0x5600 ∧ sub = 1 then some s.pairPower
  else if i = 0x5601 ∧ 1 ≤ sub then some (((s.image (sub - 1)).map (fun b => (imageId b).toNat)).getD 0)
  else if i = 0x5500 then s.liveTrigger sub
  else if 0x5401 ≤ i ∧ i ≤ 0x5403 then s.liveHistory i sub
  else
    ((((s.liveControl i sub).orElse (fun _ => s.liveTime i sub)).orElse (fun _ => s.liveTwin i sub)).orElse
      (fun _ => s.liveAnalog i sub))

/-- The value of an object of a fixed width, in the width of its type (R263, R283: staging for a shadowed object; R307). -/
def State.readValue (s : State) (r : ObjRow) (i sub : Nat) : Nat :=
  match s.live i sub with
  | some v => v % 2 ^ (8 * r.ty.bytes)
  | none =>
    if (objRow i sub).isNone then r.dflt
    else
      match r.eff with
      | .staged => Tab.get r.dflt s.cfg.staging (key i sub)
      | .now | .arm | .boot => Tab.get r.dflt s.cfg.imm (key i sub)
      | .none => if r.acc = .const then r.dflt else s.count (key i sub)

/-- The bytes of text. -/
def text (t : String) : List Byte := t.toList.map (fun c => BitVec.ofNat 8 c.toNat)

/-- The value of a STRING (R310). -/
def stringValue (sub : Nat) : List Byte :=
  match sub with
  | 5 => text (if Config.isCodeS then "KC192-H48-S" else "KC192-H48-E")
  | 6 => text "B1"
  | _ => Config.lotCode

/-- The bytes of a clamp (R289); none yet reads as zeros (log entry 4). -/
def ClampEntry.bytes (e : ClampEntry) : List Byte :=
  leBytes 4 e.seq.toNat ++ leBytes 2 e.index ++ leBytes 1 e.sub ++ leBytes 1 e.source ++ leBytes 8 e.written.toNat ++
    leBytes 8 e.stored.toNat

/-- The bytes of a DOMAIN that can be read (R290, R298); a journal entry never written reads as zeros (log entry 4). -/
def State.domainValue (s : State) (i sub : Nat) : List Byte :=
  if i = 0x1021 then
    (List.range 1024).flatMap (fun k => ((Tab.look s.ctl.journal k).map (·.bytes)).getD (List.replicate 32 0#8))
  else ((Tab.look s.ctl.clamps (sub - 2)).map (·.bytes)).getD (List.replicate 24 0#8)

end Sys2Proof.Machine
end

