-- ==== Sys2Proof/Machine/Writes.lean ====
section
/-! DEFINITION. What a write of each object does (R304 steps 6 to 10, and the rules of the objects that act at once):
staging, commits, the store, boot images, clamps, twin requests. -/

namespace Sys2Proof.Machine

/-! ### Statuses (R276) -/

def stOk : Nat := 0x00
def stClamped : Nat := 0x01
def stNoObject : Nat := 0x10
def stNoSub : Nat := 0x11
def stAccess : Nat := 0x12
def stLevel : Nat := 0x13
def stLength : Nat := 0x14
def stInvalid : Nat := 0x15
def stWrongState : Nat := 0x16
def stFull : Nat := 0x17
def stSequence : Nat := 0x18
def stNoSession : Nat := 0x19
def stBusy : Nat := 0x1A
def stLate : Nat := 0x1B
def stTooFar : Nat := 0x1C
def stPending : Nat := 0x1D
def stWrongRole : Nat := 0x1E
def stSegment : Nat := 0x1F
def stDenied : Nat := 0x20
def stNoService : Nat := 0x21

/-- What a write comes to: the status, the data of the response, and the state. -/
structure Written where
  status : Nat
  data : List Byte
  state : State
  deriving DecidableEq, Repr

/-- A write that is refused or that answers without data. -/
def answer (status : Nat) (s : State) : Written := ⟨status, [], s⟩

/-! ### Kinds of objects -/

/-- Objects that each unit keeps for itself (R331), by index. -/
def isLocal (i : Nat) : Bool :=
  decide (0x2800 ≤ i ∧ i ≤ 0x28FF) || decide (0x3800 ≤ i ∧ i ≤ 0x38FF) || decide (0x2100 ≤ i ∧ i ≤ 0x2108) ||
    decide (0x3100 ≤ i ∧ i ≤ 0x3106)

/-- A key of the shadow that each unit keeps for itself (R331); table entries are shared. -/
def isLocalKey (k : Nat) : Bool := decide (k < 0x1000000) && isLocal (k / 256)

/-- Writes that FAULT leaves possible (R276, R304 step 6). -/
def faultWritable (i sub : Nat) : Bool := decide (i = 0x1050) || decide (i = 0x1011) || decide (i = 0x1030 ∧ sub = 4)

/-- Step 7 of R304 refuses (R285, R331); Discard, Cancel and Restore act on staging and pending, which on a mizzen come
from the mainmast, so that Cancel and Restore are refused there as staged writes are (DEDUCED, log entry 21). -/
def State.roleRefuses (s : State) (r : ObjRow) (i sub : Nat) : Bool :=
  if i = 0x1031 then !(decide (s.sys.role = .mainmast) || decide (s.sys.role = .solo))
  else if s.sys.role = .mizzen then
    (decide (r.eff = .staged) && !isLocal i) || decide (i = 0x1041) || decide (i = 0x1030 ∧ sub = 6) ||
      (decide (0x2110 ≤ i ∧ i < 0x2120 ∧ sub = 9) && s.twin.following) || (decide (i = 0x2602) && s.twin.following)
  else false

/-- Step 8 of R304 refuses (R284): another session owns the shadow. -/
def State.ownerRefuses (s : State) (r : ObjRow) (k i sub : Nat) : Bool :=
  (decide (r.eff = .staged) || decide (i = 0x1031) || decide (i = 0x1041) || decide (i = 0x1030 ∧ (sub = 5 ∨ sub = 6))) &&
    decide (s.cfg.owner ≠ 255 ∧ s.cfg.owner ≠ k)

/-! ### Values and clamps -/

/-- Put a value into staging. -/
def State.stage (s : State) (k d v : Nat) : State := { s with cfg := { s.cfg with staging := Tab.set d s.cfg.staging k v } }

/-- Store the value of a RW object (R283, R307). -/
def State.storeValue (s : State) (r : ObjRow) (i sub v : Nat) : State :=
  if r.eff = .staged then s.stage (key i sub) r.dflt v else s.setImm ⟨key i sub, r.dflt⟩ v

/-- One entry of ClampReport (R289): clamp k stands at position (k - 1) mod 32. -/
def State.clamp (s : State) (seq : BitVec 32) (i sub source : Nat) (written stored : BitVec 64) : State :=
  { s with ctl := { s.ctl with
    clamps := Tab.put s.ctl.clamps (s.ctl.clampTotal.toNat % 32) ⟨seq, i, sub, source, written, stored⟩
    clampTotal := s.ctl.clampTotal + 1 } }

/-- A raw value zero-extended or sign-extended by its type (R289). -/
def ObjRow.extend (r : ObjRow) (raw : Nat) : BitVec 64 := BitVec.ofInt 64 (r.ty.toInt raw)

/-- The range of a value at this moment (R306): Width depends on the staged Period (R70), Bar4Base on HbmDegraded. -/
def State.rowNow (s : State) (r : ObjRow) (i sub : Nat) : ObjRow :=
  if 0x2110 ≤ i ∧ i < 0x2120 ∧ sub = 4 then
    { r with ranges := [(8192, min 4294967295 ((s.imm (cPgPeriod (i - 0x2110)) : Int) - 8192))] }
  else if i = 0x3700 ∧ sub = 2 ∧ s.count kHbmDegraded = 1 then { r with ranges := [(0, 95)] }
  else r

/-- After a write of Period, Width is clamped in the same write (R306). -/
def State.widthFollows (s : State) (seq : BitVec 32) (i sub k : Nat) : State :=
  if 0x2110 ≤ i ∧ i < 0x2120 ∧ sub = 3 then
    match objRow i 4 with
    | none => s
    | some r =>
      let old := s.imm (cPgWidth (i - 0x2110))
      match (s.rowNow r i 4).check old with
      | .clamped v => (s.storeValue r i 4 v).clamp seq i 4 k (r.extend old) (r.extend v)
      | .stored _ | .refused | .ignored => s
  else s

/-! ### The shadow (R284 to R286) -/

/-- Discard (R286). -/
def State.discard (s : State) : State := { s with cfg := { s.cfg with staging := s.baseSet } }

/-- The lead of slice `c` at a receipt time, in fu. -/
def leadOf (c : Nat) (tr : Tw) : Int := twDiff (sliceStart c) tr

/-- The changed values of staging that a commit carries to the partner (R318, R331). -/
def State.changes (s : State) : List (Nat × Nat) :=
  ((diffKeys s.cfg.staging s.cfg.epoch).filter (fun k => !isLocalKey k)).map (fun k =>
    (k, Tab.get (keyDefault k) s.cfg.staging k))

/-- A Commit is accepted for slice `c` by session `k` (R285): staging is copied to pending, and goes to the partner. -/
def State.acceptCommit (s : State) (k c : Nat) : State :=
  let s : State := { s with cfg := { s.cfg with
    pending := some (c, s.cfg.staging), lastCommit := 1, owner := if s.cfg.owner = k then 255 else s.cfg.owner } }
  if s.forwards then s.say (.commit c s.changes) else s

/-- Checks 4 to 6 of R285, and a join under way (R341); a refusal for its time shows in LastCommitResult. -/
def State.commit (s : State) (k : Nat) (tr : Tw) (v : Nat) : Written :=
  let c := roundUpSlice (BitVec.ofNat 64 v)
  if s.twin.joinAt.isSome && s.forwards then answer stBusy s
  else if s.cfg.pending.isSome then answer stPending s
  else if leadOf c tr < 1024 * (sliceFu : Int) then answer stLate { s with cfg := { s.cfg with lastCommit := 3 } }
  else if 2 ^ 24 * (sliceFu : Int) < leadOf c tr then answer stTooFar { s with cfg := { s.cfg with lastCommit := 4 } }
  else ⟨stOk, leBytes 8 c ++ leBytes 8 (s.cfg.number + 1).toNat, s.acceptCommit k c⟩

/-- A write of Cancel (R286). -/
def State.cancel (s : State) (tr : Tw) : Nat × State :=
  match s.cfg.pending with
  | none => (stOk, s)
  | some (c, _) =>
    if leadOf c tr < 1024 * (sliceFu : Int) then (stLate, s)
    else (stOk, { s with cfg := { s.cfg with pending := none, lastCommit := 5 } })

/-- A write of Owner (R284); the value is 0 to 7 or 255. -/
def State.ownerWrite (s : State) (k v : Nat) : Nat × State :=
  if (s.cfg.owner = 255 ∨ s.cfg.owner = k) ∧ (v = k ∨ v = 255) then (stOk, { s with cfg := { s.cfg with owner := v } })
  else (stBusy, s)

/-! ### Store, restore, unlock (R281, R293, R294) -/

/-- The objects that act at once and are stored (R293). -/
def storedKeys : List Nat := [cSessionTimeout.key, cCanNominalRateA.key, cCanDataRateA.key, cCanNominalRateB.key,
  cCanDataRateB.key, cPreferredSlot.key, cTwinMode.key]

/-- A write of PreferredSlot acts at once in the flash directory (R298). -/
def State.preferredWrite (s : State) (v : Nat) : State :=
  let s := s.setImm cPreferredSlot v
  { s with cfg := s.cfg.prefer v }

/-- StoreRequest (R293): the store begins with the values as they stand at the batch boundary. -/
def State.storeRequest (s : State) : Nat × State :=
  if s.cfg.storing.isSome then (stBusy, s)
  else
    let g := ((s.cfg.store.map (·.generation)).getD 0#32) + 1
    let copy : StoreCopy := ⟨g, s.cfg.number, s.cfg.epoch, s.cfg.imm.filter (fun e => storedKeys.contains e.1), s.cfg.images⟩
    (stOk, { s with cfg := { s.cfg.putStore none with storing := some copy, storeState := 1 } })

/-- Restore (R294): 1 the stored configuration, 2 the factory defaults. -/
def State.restore (s : State) (v : Nat) : Nat × State :=
  if v = 2 then (stOk, { s with cfg := { s.cfg with staging := [] } })
  else
    match s.cfg.store with
    | some c => (stOk, { s with cfg := { s.cfg with staging := c.table } })
    | none => (stInvalid, s)

/-- ExpertUnlock by session `k` (R281). -/
def State.unlock (s : State) (k v : Nat) : Nat × State :=
  match s.session k with
  | none => (stDenied, s)
  | some x =>
    if v ≠ Config.serial.toNat % 65536 then
      (stDenied, (s.setSession k { x with refusals := x.refusals + 1 }).bump kUnlockFailures)
    else if 4 ≤ x.refusals then (stDenied, s)
    else (stOk, s.setSession k { x with expert := true })

/-! ### Boot images (R295) -/

/-- A boot image passes the checks of its header and its CRC (R295). -/
def bootImageGood (b : List Byte) : Bool :=
  decide (leAt b 0 4 = 0x4B435343) && decide (leAt b 4 4 = b.length) &&
    decide ((crc32c (b.take 60 ++ b.drop 64)).toNat = leAt b 60 4)

/-- BootImageWrite (R295): programming of the slot that did not boot begins. -/
def State.bootImageWrite (s : State) (b : List Byte) : Nat × State :=
  if !bootImageGood b then (stInvalid, s)
  else if s.cfg.programming.isSome then (stBusy, s)
  else (stOk, { s with cfg := { s.cfg with programming := some (BitVec.ofNat 32 (leAt b 8 4)), bootImageState := 1 } })

/-! ### Images of the feature processors (R209) -/

/-- The image of a slot is replaced; every core with that slot has to load it (R209, R211). -/
def State.putImage (s : State) (slot : Nat) (b : List Byte) : State :=
  { s with
    cfg := { s.cfg with images := Tab.put s.cfg.images slot b }
    cores := (List.range 24).foldl (fun (t : Tab Core) g =>
      let c := Tab.get Core.empty t g
      if c.slot = slot then Tab.set Core.empty t g { c with rewritten := true } else t) s.cores }

/-- A write of FpImage (R209): refused by the first check that fails, or stored and sent to the partner. -/
def State.fpImage (s : State) (slot : Nat) (b : List Byte) : Nat × State :=
  let e := imageError b
  if e ≠ 0 then (stInvalid, s.setStat kLastImageError e)
  else
    let s := s.putImage slot b
    (stOk, if s.forwards then s.say (.image slot b) else s)

/-! ### Twin requests (R315, R319, R326) -/

/-- A change of role with the change of state that R28 gives it. -/
def State.toRole (s : State) (r : Role) : State :=
  let d : DevState :=
    if s.sys.dev = .run ∧ r = .fenced then .fenced
    else if s.sys.dev = .fenced ∧ r ≠ .fenced then .run
    else s.sys.dev
  s.setStateRole d r

/-- An identifier of the class, destination and source (R270). -/
def canId (cls dst src : Nat) : BitVec 29 := BitVec.ofNat 29 (cls * 16777216 + dst * 256 + src)

/-- The 64 bytes of a frame (R269, R273). -/
def pad64 (b : List Byte) : List Byte := (b ++ List.replicate 64 0#8).take 64

/-- A lease message goes out on both buses to the arbiter, node 254 (R322). -/
def State.leaseSend (s : State) (cls : Nat) (b : List Byte) : State :=
  (s.emit (.can .a (canId cls 254 s.ownNode) (pad64 b))).emit (.can .b (canId cls 254 s.ownNode) (pad64 b))

/-- REQUEST to the arbiter (R322): 1 TAKEOVER, 2 YIELD. -/
def State.requestArbiter (s : State) (what : Nat) : State :=
  s.leaseSend 3 (leBytes 4 s.twin.highest.toNat ++ leBytes 1 what ++ leBytes 3 0 ++ leBytes 8 Config.serial.toNat)

/-- LEAVE (R326): role FENCED, no HELLO, and forwarded messages are ignored until a JOIN; the unit then decides for
itself, with a history that no takeover can use (R320, R321). -/
def State.leave (s : State) : State :=
  let s := s.toRole .fenced
  { s with twin := { s.twin with left := true, following := false, deciding := false, joining := false, joinAt := none,
                                 ready := 0 } }

/-- A write of TwinRequest (R326, R341). -/
def State.twinRequest (s : State) (v : Nat) : Nat × State :=
  if v = 1 then (if s.sys.role = .mainmast then (stOk, s.requestArbiter 2) else (stWrongRole, s))
  else if v = 2 then
    if s.sys.role = .mizzen ∨ (s.sys.role = .fenced ∧ s.sys.dev = .fenced) then (stOk, s.startJoin)
    else (stWrongRole, s)
  else if s.sys.role = .mizzen ∨ s.sys.role = .fenced then (stOk, s.leave)
  else (stWrongRole, s)

/-- The stay lanes follow LaneMask while PD47 is powered, that is on a paired unit (R316, R409); with `restart` the enabled lanes
start from DETECT, because TwinMode has changed (DEDUCED, log entry 22). -/
def State.stayConfigure (s : State) (restart : Bool) : State :=
  let mask := s.conf cLaneMask
  let s := (List.range 4).foldl (fun (s : State) l =>
    let x := Tab.get Port.empty s.stay l
    let st : LinkState := if s.paired && bit mask l then (if restart || decide (x.st = .disabled) then .detect else x.st) else .disabled
    if st = x.st then s
    else { s with stay := Tab.set Port.empty s.stay l { x with st := st, since := s.tb.c, goodRun := 0, badMarkers := 0,
                                                               realign := false } }) s
  if restart then
    { s with twin := { s.twin with
      partnerUp := false, partner := none, unacked := [], txQueue := [], rxSeq := none, rxBytes := [] } }
  else s

/-- A write of TwinMode (R315, R319): SOLO becomes FENCED at 1, and every role SOLO at 0. A transfer of a unit that leaves
SOLO is cut off (R30, R259). -/
def State.twinModeWrite (s : State) (v : Nat) : Nat × State :=
  if s.sys.dev ≠ .standstill then (stWrongState, s)
  else if s.imm cTwinMode = v then (stOk, s)
  else
    let s := (if v = 1 then s.abortTransfers else s).setImm cTwinMode v
    let s : State := { s with twin := { s.twin with
      lease := none, waiting := none, takeoverAt := none, deciding := false, following := false, joining := false,
      joinAt := none, ready := 0, left := false } }
    (stOk, (s.toRole (if v = 1 then .fenced else .solo)).stayConfigure true)

/-! ### Ports -/

/-- A write of Command (R84, R85): the queue holds 16 commands. -/
def State.portCommand (s : State) (p v : Nat) : Nat × State :=
  let x := s.port p
  if field v 60 56 < 4 then (stInvalid, s)
  else if 16 ≤ x.commands.length then (stFull, s)
  else (stOk, s.setPort p { x with commands := x.commands ++ [BitVec.ofNat 61 v] })

/-- ClearQuarantine (R105). -/
def State.clearQuarantine (s : State) (p : Nat) : State :=
  let x := s.port p
  if x.st = .quarantine then
    s.setPort p { x with st := .detect, since := s.tb.c, goodRun := 0, badMarkers := 0, fails := 0 }
  else s

/-- A write of Arm of generator `n` (R64, R66, R67, R401): forwarded with its outcome. -/
def State.armWrite (s : State) (n : Nat) (tr : Tw) : Nat × State :=
  let f := s.stagedPulse n
  let o := armOutcome f tr
  let old := (s.gen n).nextPulse
  let s := (s.armGen n f tr o).lampSchedule n old
  let s := if s.forwards then s.say (.arm n tr f o) else s
  (match o with | .accepted => stOk | .late => stLate | .tooFar => stTooFar, s)

/-! ### Writes of objects that act at once -/

/-- A write whose value passed steps 9 and 10, for an object with a rule of its own; none where the value is only
stored. `k` is the session, `tr` the receipt time. -/
def State.special (s : State) (k : Nat) (tr : Tw) (i sub v : Nat) : Option (Nat × State) :=
  if i = 0x1030 ∧ sub = 4 then some (s.ownerWrite k v)
  else if i = 0x1030 ∧ sub = 5 then some (stOk, s.discard)
  else if i = 0x1030 ∧ sub = 6 then some (s.cancel tr)
  else if i = 0x1040 then some s.storeRequest
  else if i = 0x1041 then some (s.restore v)
  else if i = 0x1050 then some (s.unlock k v)
  else if i = 0x1100 ∧ sub = 2 then some (stOk, s.preferredWrite v)
  else if i = 0x2102 ∧ sub = 2 then
    some (if s.sys.dev = .standstill then (stOk, { s with tb := { s.tb with stepTarget := some (BitVec.ofNat 64 v) } })
      else (stWrongState, s))
  else if 0x2110 ≤ i ∧ i < 0x2120 ∧ sub = 9 then some (s.armWrite (i - 0x2110) tr)
  else if i = 0x2801 then some (s.twinRequest v)
  else if i = 0x2802 then some (s.twinModeWrite v)
  else if i = 0x2A01 then some (stOk, s.sequenceControl v)
  else if i = 0x2B00 ∧ sub = 4 then some (stOk, s.clearFaults)
  else if i = 0x2B20 ∧ sub = 6 then
    some (match s.lampCommand v with
      | (.ok, t) => (stOk, t)
      | (.full, t) => (stFull, t)
      | (.invalid, t) => (stInvalid, t))
  else if i = 0x3A00 then some (stOk, s.trimReload)
  else if 0x4000 ≤ i ∧ i < 0x40C0 ∧ sub = 4 then some (s.portCommand (i - 0x4000) v)
  else if 0x4000 ≤ i ∧ i < 0x40C0 ∧ sub = 5 then some (stOk, s.clearQuarantine (i - 0x4000))
  else none

/-- The value `v` is stored, or does what its object says; `seq` is the device sequence of the response. -/
def State.putValue (s : State) (k : Nat) (tr : Tw) (seq : BitVec 32) (r : ObjRow) (i sub raw v : Nat) (clamped : Bool) :
    Written :=
  let w := (s.special k tr i sub v).getD (stOk, s.storeValue r i sub v)
  if 0x10 ≤ w.1 then answer w.1 w.2
  else
    let t := if clamped then w.2.clamp seq i sub k (r.extend raw) (r.extend v) else w.2
    ⟨if clamped then stClamped else stOk, leBytes r.ty.bytes v, t.widthFollows seq i sub k⟩

/-- Steps 6 to 10 of R304 for a value of a fixed width. -/
def State.writeValue (s : State) (k : Nat) (tr : Tw) (seq : BitVec 32) (r : ObjRow) (i sub raw : Nat) : Written :=
  if s.sys.dev = .fault ∧ faultWritable i sub = false then answer stWrongState s
  else if s.roleRefuses r i sub then answer stWrongRole s
  else if s.ownerRefuses r k i sub then answer stBusy s
  else if i = 0x1031 then s.commit k tr raw
  else if r.ty = .bool ∧ 1 < raw then answer stInvalid s
  else
    match (s.rowNow r i sub).check raw with
    | .refused => answer stInvalid s
    | .ignored => ⟨stOk, leBytes r.ty.bytes raw, s⟩
    | .stored v => s.putValue k tr seq r i sub raw v false
    | .clamped v => s.putValue k tr seq r i sub raw v true

/-- Steps 6 to 9 of R304 for a complete DOMAIN. -/
def State.writeDomain (s : State) (k : Nat) (tr : Tw) (r : ObjRow) (i sub : Nat) (b : List Byte) : Written :=
  if s.sys.dev = .fault then answer stWrongState s
  else if s.roleRefuses r i sub then answer stWrongRole s
  else if s.ownerRefuses r k i sub then answer stBusy s
  else if i = 0x1101 then
    let w := s.bootImageWrite b
    answer w.1 w.2
  else if i = 0x2502 then
    if 63 < leAt b 0 1 then answer stInvalid s else answer stOk (s.triggerRequest k b tr)
  else if i = 0x2602 then
    let w := s.fpImage (sub - 1) b
    answer w.1 w.2
  else answer stOk (s.stage (key i sub) 0 (leNat b))

end Sys2Proof.Machine
end

