-- ==== Sys2Proof/Machine/Lcp.lean ====
section
/-! DEFINITION. The Lisum control protocol (10_control_sessions.md): messages (R273 to R276), sessions (R277 to R281),
batches (R282), the mailbox (R271, R272) and the CAN buses (R269, R270). -/

namespace Sys2Proof.Machine

/-! ### Messages (R273) -/

/-- A message of the protocol: header and data. -/
def lcpMessage (kind service session : Nat) (number : BitVec 16) (seq : BitVec 32) (index sub code : Nat)
    (data : List Byte) : List Byte :=
  leBytes 1 (kind * 64 + service) ++ leBytes 1 session ++ leBytes 2 number.toNat ++ leBytes 4 seq.toNat ++
    leBytes 2 index ++ leBytes 1 sub ++ leBytes 1 code ++ leBytes 2 data.length ++ leBytes 2 0 ++ data

/-- The header fields of a request. -/
structure Header where
  kind : Nat
  service : Nat
  session : Nat
  number : BitVec 16
  index : Nat
  sub : Nat
  len : Nat
  data : List Byte
  deriving DecidableEq, Repr

/-- The header of a message (R273); bytes that a slot does not list are 0. -/
def headerOf (b : List Byte) : Header :=
  let b := b ++ List.replicate (16 - b.length) 0#8
  let n := leAt b 12 2
  ⟨leAt b 0 1 / 64, leAt b 0 1 % 64, leAt b 1 1, BitVec.ofNat 16 (leAt b 2 2), leAt b 8 2, leAt b 10 1, n,
    ((b.drop 16) ++ List.replicate (n - (b.length - 16)) 0#8).take n⟩

/-- The bytes of a request that R273 fixes at 0: the device sequence, the status, and on CAN FD what follows the data. -/
def zeroBytes (t : Transport) (h : Header) (b : List Byte) : Bool :=
  decide (leAt b 4 4 = 0) && decide (leAt b 11 1 = 0) &&
    (decide (t = .mailbox) || (b.drop (16 + h.len)).all (fun x => decide (x = 0#8)))

/-- The data that one message carries at most (R273). -/
def Transport.capacity : Transport → Nat
  | .mailbox => 4080 | .canA => 48 | .canB => 48

/-- A message goes into the next response slot, or out on its CAN bus to the client node (R270, R272). -/
def State.sendMsg (s : State) (t : Transport) (cls node : Nat) (msg : List Byte) : State :=
  match t with
  | .canA => s.emit (.can .a (canId cls node s.ownNode) (pad64 msg))
  | .canB => s.emit (.can .b (canId cls node s.ownNode) (pad64 msg))
  | .mailbox =>
    ({ s with ctl := { s.ctl with
      slots := Tab.put s.ctl.slots (16 + s.ctl.respTail) msg
      respTail := (s.ctl.respTail + 1) % 32 } } : State).mailboxSignal

/-- The response to a request. -/
def responseTo (h : Header) (session : Nat) (seq : BitVec 32) (status : Nat) (data : List Byte) : List Byte :=
  lcpMessage 1 h.service session h.number seq h.index h.sub status data

/-- A response that needs no session (R273): it takes the next device sequence (R279). -/
def State.refuse (s : State) (q : Request) (h : Header) (status : Nat) (data : List Byte) : State :=
  let s := s.nextSeq
  s.sendMsg q.transport 9 q.node (responseTo h h.session s.ctl.seq status data)

/-! ### Sessions (R277) -/

/-- A session closes (R277): the staged values of an owner are discarded, and ownership is released. -/
def State.closeSession (s : State) (k : Nat) : State :=
  let s : State := { s with ctl := { s.ctl with sessions := Tab.drop s.ctl.sessions k } }
  if s.cfg.owner = k then { s.discard with cfg := { s.discard.cfg with owner := 255 } } else s

/-- The open session of a client on a transport and node. -/
def State.clientSession (s : State) (q : Request) (client : BitVec 32) : Option Nat :=
  (s.ctl.sessions.find? (fun e => decide (e.2.client = client ∧ e.2.transport = q.transport ∧ e.2.node = q.node))).map
    Prod.fst

/-- Session `k` begins with the response to its OPEN (R277, R278). -/
def State.beginSession (s : State) (q : Request) (h : Header) (k : Nat) (reclaim : Bool) : State :=
  let client := BitVec.ofNat 32 (leAt h.data 0 4)
  let s := s.nextSeq
  let msg := responseTo h k s.ctl.seq stOk (leBytes 2 (h.number + 1).toNat)
  let x : Session := ⟨q.transport, q.node, client, h.number + 1, false, 0, leAt h.data 5 1 % 16, 0, [], msg, none, s.tb.c⟩
  let s := s.setSession k x
  let s := if reclaim then s.journal 0x0004 k (jdata [(0, client.toNat)]) else s
  s.sendMsg q.transport 9 q.node msg

/-- OPEN (R274, R277); a client identifier of 0 is refused (DEDUCED, log entry 21). -/
def State.openSession (s : State) (q : Request) (h : Header) : State :=
  let client := BitVec.ofNat 32 (leAt h.data 0 4)
  if h.data.length < 6 then s.refuse q h stLength []
  else if client = 0#32 then s.refuse q h stInvalid []
  else
    match s.clientSession q client with
    | some k => if bit (leAt h.data 4 1) 0 then s.beginSession q h k true else s.refuse q h stBusy []
    | none =>
      match (List.range 8).find? (fun k => (s.session k).isNone) with
      | some k => s.beginSession q h k false
      | none => s.refuse q h stFull []

/-! ### Services (R274, R275, R304) -/

/-- PING (R274). -/
def State.ping (s : State) : List Byte :=
  leBytes 8 s.now.toNat ++ leBytes 8 s.cfg.number.toNat ++ leBytes 1 s.sys.dev.num ++ leBytes 1 s.sys.role.num ++
    leBytes 1 s.shadowState ++ leBytes 1 0 ++ leBytes 4 s.ctl.jCount.toNat ++
    leBytes 8 ((s.cfg.pending.map Prod.fst).getD 0) ++ leBytes 4 s.ctl.clampTotal.toNat ++ List.replicate 12 0#8

/-- The status of an address that names no object (R302). -/
def absent (i : Nat) : Nat := if indexPresent i then stNoSub else stNoObject

/-- READ (R274, R275, R304): the status and the data. -/
def State.readObject (s : State) (t : Transport) (h : Header) : Nat × List Byte :=
  match objAt h.index h.sub with
  | none => (absent h.index, [])
  | some r =>
    if r.acc = .wo then (stAccess, List.replicate r.ty.bytes 0#8)
    else if r.ty = .domain then
      if h.data.length < 8 then (stLength, [])
      else
        let b := s.domainValue h.index h.sub
        (stOk, leBytes 4 b.length ++ (b.drop (leAt h.data 0 4)).take (min (leAt h.data 4 4) (t.capacity - 4)))
    else if r.ty = .string then (stOk, stringValue h.sub)
    else (stOk, leBytes r.ty.bytes (s.readValue r h.index h.sub))

/-- The sizes of a DOMAIN that can be written (R303). -/
def domainSize (i : Nat) : Nat × Nat :=
  if i = 0x1101 then (64, 4194304) else if i = 0x2502 then (32, 32) else if i = 0x2602 then (72, 176192) else (16, 16)

/-- Change what session `k` collects. -/
def State.setCollect (s : State) (k : Nat) (c : Option Collect) : State :=
  match s.session k with
  | some x => s.setSession k { x with collect := c }
  | none => s

/-- One segment of a DOMAIN write (R275): `have_` is what came before. -/
def State.segment (s : State) (k : Nat) (tr : Tw) (r : ObjRow) (h : Header) (have_ : Option Collect) : Written :=
  let off := leAt h.data 0 4
  let total := leAt h.data 4 4
  let old := (have_.map (·.bytes)).getD []
  let drop := s.setCollect k none
  if h.data.length < 8 then answer stLength s
  else if off ≠ old.length ∨ (have_.map (·.total)).getD total ≠ total then answer stSegment drop
  else if total < (domainSize h.index).1 ∨ (domainSize h.index).2 < total then answer stLength drop
  else
    let b := old ++ h.data.drop 8
    if total < b.length then answer stSegment drop
    else if b.length < total then answer stOk (s.setCollect k (some ⟨h.index, h.sub, total, b⟩))
    else drop.writeDomain k tr r h.index h.sub b

/-- WRITE (R304). -/
def State.writeObject (s : State) (k : Nat) (x : Session) (tr : Tw) (seq : BitVec 32) (h : Header) : Written :=
  match objAt h.index h.sub with
  | none => answer (absent h.index) s
  | some r =>
    if r.acc = .ro ∨ r.acc = .const then answer stAccess s
    else if r.expert && !x.expert then answer stLevel s
    else if r.ty = .domain then s.segment k tr r h x.collect
    else if h.data.length ≠ r.ty.bytes then answer stLength s
    else s.writeValue k tr seq r h.index h.sub (leNat h.data)

/-- A request is the next segment of what the session collects. -/
def continues (x : Session) (h : Header) : Bool :=
  match x.collect with
  | none => true
  | some c => decide (h.service = 4 ∧ h.index = c.index ∧ h.sub = c.sub)

/-- A request in its sequence is executed (R274 to R276); `seq` is the device sequence of its response. -/
def State.execute (s : State) (k : Nat) (x : Session) (tr : Tw) (seq : BitVec 32) (h : Header) : Written :=
  if !continues x h then answer stSegment (s.setCollect k none)
  else if h.service = 2 then answer stOk (s.closeSession k)
  else if h.service = 3 then
    let r := s.readObject x.transport h
    ⟨r.1, r.2, s⟩
  else if h.service = 4 then s.writeObject k x tr seq h
  else if h.service = 5 then ⟨stOk, s.ping, s⟩
  else answer stNoService s

/-- A write whose response waits for the partner's ACK (R318). -/
def awaitsAck (h : Header) : Bool :=
  decide (h.service = 4) && (decide (h.index = 0x1031) || decide (h.index = 0x2602) ||
    decide (0x2110 ≤ h.index ∧ h.index < 0x2120 ∧ h.sub = 9))

/-- Keep the response of session `k`, while the session is open (R278). -/
def State.keep (s : State) (k : Nat) (number : BitVec 16) (msg : List Byte) : State :=
  match s.session k with
  | some x => if x.expected = number + 1 then s.setSession k { x with kept := msg } else s
  | none => s

/-- Run a request of session `k` and answer it, or hold the answer until the partner's ACK (R278, R279, R318); with the
response that was sent, which is empty while it is held. -/
def State.serve (s : State) (q : Request) (h : Header) (k : Nat) (x : Session) (tr : Tw) : State × List Byte :=
  let s := s.nextSeq
  let seq := s.ctl.seq
  let w := s.execute k x tr seq h
  let msg := responseTo h h.session seq w.status w.data
  let t := w.state
  if awaitsAck h && decide (t.twin.msgNo ≠ s.twin.msgNo) then
    let t := t.keep k h.number []
    ({ t with ctl := { t.ctl with held := t.ctl.held ++ [⟨t.twin.msgNo, q, msg⟩] } }, [])
  else ((t.keep k h.number msg).sendMsg q.transport 9 q.node msg, msg)

/-! ### Batches (R282) -/

/-- A request that waits for the second part of its batch: a Commit or Cancel, or the repetition of one. -/
structure Later where
  request : Request
  session : Nat
  again : Bool
  deriving DecidableEq, Repr

/-- The session that a request names, if it is open on its transport and node (R273). -/
def State.sessionFor (s : State) (q : Request) (h : Header) : Option Session :=
  (s.session h.session).filter (fun x => decide (h.session < 8 ∧ x.transport = q.transport ∧ x.node = q.node))

/-- A write of Commit or Cancel (R282). -/
def isLate (x : Session) (h : Header) : Bool :=
  decide (h.service = 4) && x.collect.isNone && (decide (h.index = 0x1031 ∧ h.sub = 0) || decide (h.index = 0x1030 ∧ h.sub = 6))

/-- A request of an open session by its sequence (R278). -/
def State.takeRequest (tr : Tw) (r : State × List Later) (q : Request) (h : Header) (x : Session) : State × List Later :=
  let s := r.1
  let k := h.session
  let x := { x with lastC := s.tb.c }
  let s := s.setSession k x
  if h.number = x.expected then
    let y := { x with expected := x.expected + 1 }
    if isLate x h then (s.setSession k { y with kept := [] }, r.2 ++ [⟨q, k, false⟩])
    else (((s.setSession k y).serve q h k y tr).1, r.2)
  else if h.number = x.expected - 1 then
    let s := s.bump kRepeats
    if x.kept.isEmpty then (s, r.2 ++ [⟨q, k, true⟩]) else (s.sendMsg q.transport 9 q.node x.kept, r.2)
  else ((s.bump kSequenceErrors).refuse q h stSequence (leBytes 2 x.expected.toNat), r.2)

/-- The first part of a batch: one request (R273, R277, R278, R282). -/
def State.handleRequest (tr : Tw) (r : State × List Later) (q : Request) : State × List Later :=
  let s := r.1
  let h := headerOf q.bytes
  if h.kind ≠ 0 ∨ q.transport.capacity < h.len ∨ (h.service = 1 ∧ h.session ≠ 0xFF) ∨
      zeroBytes q.transport h q.bytes = false then (s.refuse q h stLength [], r.2)
  else if h.service = 1 then (s.openSession q h, r.2)
  else
    match s.sessionFor q h with
    | none => (s.refuse q h stNoSession [], r.2)
    | some x => State.takeRequest tr r q h x

/-- The session and the sequence of a request, as one number. -/
def Later.key (l : Later) : Nat := l.session * 65536 + (headerOf l.request.bytes).number.toNat

/-- The second part of a batch: Commits and Cancels after all other requests (R282). `r.2` holds the responses that this
part has sent, for the repetitions of their requests (R278). A session that the batch has closed is not open any more
(DEDUCED, log entry 21). -/
def State.handleLater (tr : Tw) (r : State × Tab (List Byte)) (l : Later) : State × Tab (List Byte) :=
  let h := headerOf l.request.bytes
  match r.1.session l.session with
  | none => (r.1.refuse l.request h stNoSession [], r.2)
  | some x =>
    if l.again then
      let m := Tab.get [] r.2 l.key
      (if m.isEmpty then r.1 else r.1.sendMsg l.request.transport 9 l.request.node m, r.2)
    else
      let w := r.1.serve l.request h l.session x tr
      (w.1, Tab.put r.2 l.key w.2)

/-- Free response slots that no held response needs (R246, R272). -/
def State.freeSlots (s : State) : Nat :=
  31 - (s.ctl.respTail + 32 - s.ctl.respHead) % 32 - s.ctl.held.countP (fun r => decide (r.request.transport = .mailbox))

/-- The number of requests in the ring of the mailbox (R246, R271). -/
def Control.waiting (c : Control) : Nat := (c.reqTail + 16 - c.reqHead) % 16

/-- The requests that the mailbox holds, oldest first. -/
def State.mailboxRequests (s : State) : List Request :=
  (List.range s.ctl.waiting).map (fun i =>
    ⟨.mailbox, 0, Tab.get [] s.ctl.slots ((s.ctl.reqHead + i) % 16), s.ctl.posted.getD i s.now⟩)

/-- A request completed before the boundary `b` (R282); one whose time lies ahead of now came before the time word was stepped
back. -/
def State.completedBefore (s : State) (b : Tw) (q : Request) : Bool := before q.at_ b || before s.now q.at_

/-! ### Reports (R272, R280) -/

/-- A report as it is sent. -/
def reportMessage (k : Nat) (r : Report) : List Byte := lcpMessage 2 0 k r.number r.seq r.index 0 r.code r.data

/-- The session whose oldest report goes next: the lowest device sequence, where there is room. -/
def State.nextReport (s : State) : Option (Nat × Session × Report) :=
  (s.ctl.sessions.filterMap (fun e =>
    match e.2.reports with
    | [] => none
    | r :: _ => if e.2.transport = .mailbox ∧ s.freeSlots = 0 then none else some (e.1, e.2, r))).foldl (fun m c =>
      match m with
      | none => some c
      | some b => if (c.2.2.seq - b.2.2.seq).toInt < 0 then some c else some b) none

/-- Send up to `n` waiting reports. -/
def State.sendReports (s : State) : Nat → State
  | 0 => s
  | n + 1 =>
    match s.nextReport with
    | none => s
    | some (k, x, r) =>
      State.sendReports ((s.setSession k { x with reports := x.reports.drop 1 }).sendMsg x.transport 10 x.node
        (reportMessage k r)) n

/-- Send every report that can go. -/
def State.drainReports (s : State) : State := s.sendReports (s.ctl.sessions.map (fun e => e.2.reports.length)).sum

/-! ### The commands -/

/-- The system controller serves requests: from STANDSTILL or FAULT on (R26, R28). -/
def State.serving (s : State) : Bool := decide (s.sys.dev ≠ .powered) && decide (s.sys.dev ≠ .boot)

/-- The batch of the slice boundary at which the present slice began: what completed before it (R282), from the mailbox as
much as there is room to answer (R272). -/
def State.batch (s : State) : State :=
  let tr := sliceStart s.slice
  let due := s.completedBefore tr
  let m := (s.mailboxRequests.takeWhile due).take s.freeSlots
  let todo := m ++ s.ctl.canA.filter due ++ s.ctl.canB.filter due
  let s : State := { s with ctl := { s.ctl with
    reqHead := (s.ctl.reqHead + m.length) % 16, posted := s.ctl.posted.drop m.length
    canA := s.ctl.canA.filter (fun q => !due q), canB := s.ctl.canB.filter (fun q => !due q) } }
  let r := todo.foldl (State.handleRequest tr) (s, [])
  (r.2.foldl (State.handleLater tr) (r.1, [])).1.drainReports

/-- REQUEST_BATCH (R282). -/
def execRequestBatch (dt : Nat) (s : State) : Host.Outcome State Fault Refusal :=
  let s := s.elapse dt
  .next (if s.serving then s.batch else s)

/-- SESSION_TIMEOUT: no request of a session for SessionTimeout (R277). -/
def execSessionTimeout (dt : Nat) (n : SessionId) (s : State) : Host.Outcome State Fault Refusal :=
  let s := s.elapse dt
  .next <|
    match s.session n.val with
    | none => s
    | some x =>
      if usFu (1000000 * s.imm cSessionTimeout) ≤ s.since x.lastC then
        (s.closeSession n.val).journal 0x0003 n.val (jdata [(0, x.client.toNat)])
      else s

/-- REQ_TAIL: the ReqTail write that posts requests (R271); `msgs` are what the host has written into the slots from the
old index on. -/
def execReqTail (dt : Nat) (value : BitVec 32) (msgs : List (List Byte)) (s : State) : Host.Outcome State Fault Refusal :=
  let s := s.elapse dt
  let i := value.toNat % 65536
  .next <|
    if !s.barOpen then s
    else if 16 ≤ i then s.badAccess
    else
      let slots := (msgs.take 16).foldl (fun (a : Tab (List Byte) × Nat) m => (Tab.put a.1 (a.2 % 16) m, a.2 + 1))
        (s.ctl.slots, s.ctl.reqTail)
      let c := { s.ctl with slots := slots.1, reqTail := i }
      { s with ctl := { c with posted := (s.ctl.posted ++ List.replicate 16 s.now).take c.waiting } }

/-- A write of RespHead (R271, R272): reports that waited for room follow. -/
def State.respHeadWrite (s : State) (value : BitVec 32) : State :=
  let i := value.toNat % 65536
  if !s.barOpen then s
  else if 32 ≤ i then s.badAccess
  else
    ({ s with ctl := { s.ctl with respHead := i, armed := s.ctl.armed || value.getLsbD 31 } } : State).mailboxSignal.drainReports

/-- RESP_HEAD (R271, R272). -/
def execRespHead (dt : Nat) (value : BitVec 32) (s : State) : Host.Outcome State Fault Refusal :=
  .next ((s.elapse dt).respHeadWrite value)

/-- RESP_ARM: a write of RespHead with ARM (R272). -/
def execRespArm (dt : Nat) (value : BitVec 32) (s : State) : Host.Outcome State Fault Refusal :=
  .next ((s.elapse dt).respHeadWrite (value ||| 0x80000000#32))

/-- The counters of a bus. -/
def busIgnored : CanBus → Nat
  | .a => kCanIgnoredA | .b => kCanIgnoredB

def busOverrun : CanBus → Nat
  | .a => kCanRxOverrunA | .b => kCanRxOverrunB

def busOffs : CanBus → Nat
  | .a => kCanBusOffA | .b => kCanBusOffB

/-- The receive buffer of a bus. -/
def Control.buffer (c : Control) : CanBus → List Request
  | .a => c.canA | .b => c.canB

/-- A request enters the receive buffer of its bus, or is lost (R270). -/
def State.receiveCan (s : State) (bus : CanBus) (src : Nat) (data : List Byte) : State :=
  if 32 ≤ (s.ctl.buffer bus).length then s.bump (busOverrun bus)
  else
    match bus with
    | .a => { s with ctl := { s.ctl with canA := s.ctl.canA ++ [⟨.canA, src, data, s.now⟩] } }
    | .b => { s with ctl := { s.ctl with canB := s.ctl.canB ++ [⟨.canB, src, data, s.now⟩] } }

/-- The fields of an identifier (R270). -/
def canCls (f : CanFrame) : Nat := f.id.toNat / 16777216

def canDst (f : CanFrame) : Nat := f.id.toNat / 256 % 256

def canSrc (f : CanFrame) : Nat := f.id.toNat % 256

/-- A frame has the identifier, the format and the length that the device takes (R269). -/
def canSized (f : CanFrame) : Bool := f.extended && f.fd && decide (f.data.length = 64)

/-- A frame has the form that the device accepts (R269). -/
def canFormed (f : CanFrame) : Bool := canSized f && f.brs

/-- LCP_CAN_FRAME: a frame on a bus (R269, R270). -/
def execLcpCanFrame (dt : Nat) (bus : CanBus) (f : CanFrame) (s : State) : Host.Outcome State Fault Refusal :=
  let s := s.elapse dt
  .next <|
    if !s.serving then s
    else if !canSized f then s.bump (busIgnored bus)
    else if f.brs && decide (canCls f = 8) && decide (canDst f = s.ownNode) &&
        decide (128 ≤ canSrc f ∧ canSrc f ≤ 253) then s.receiveCan bus (canSrc f) f.data
    else s

/-- CAN_BUS_OFF (R269). -/
def execCanBusOff (dt : Nat) (bus : CanBus) (s : State) : Host.Outcome State Fault Refusal :=
  .next ((s.elapse dt).bump (busOffs bus))

/-- STORE_DONE: the store has ended (R293). -/
def execStoreDone (dt : Nat) (failure : Option StoreFailure) (s : State) : Host.Outcome State Fault Refusal :=
  let s := s.elapse dt
  .next <|
    match s.cfg.storing, failure with
    | none, _ => s
    | some c, none =>
      ({ s with cfg := { s.cfg.putStore (some c) with storing := none, storeState := 2 } } : State).journal 0x0030 srcDevice
        (jdata [(0, c.generation.toNat), (8, c.epoch.toNat)])
    | some _, some f =>
      ({ s with cfg := { s.cfg with storing := none, storeState := 3 } } : State).journal 0x0031 srcDevice
        (jdata [(0, match f with | .erase => 1 | .program => 2 | .verify => 3)])

/-- BOOT_IMAGE_PROGRAMMED: the programming of the other slot has ended (R295); what a failure leaves in the slot is not
stated, and its version is a free value (log entry 6). -/
def execBootImageProgrammed (dt : Nat) (ok : Bool) (s : State) : Host.Outcome State Fault Refusal :=
  let s := s.elapse dt
  .next <|
    match s.cfg.programming with
    | none => s
    | some v =>
      let v := if ok then v else s.freeVal.setWidth 32
      let s := if ok then s else s.nextFree
      let g := { s.cfg with programming := none, bootImageState := if ok then 2 else 3 }
      { s with cfg := if s.cfg.activeSlot = 0 then { g with versionB := v } else { g with versionA := v } }

end Sys2Proof.Machine
end

