-- ==== Sys2Proof/Machine/Commit.lean ====
section
/-! DEFINITION. The commit slice (R27 to R29, R40, R99, R133, R178, R211, R212, R285): the new epoch and what it changes
in each part; scrubbing (R296, R297) and the shadow tables of BAR0 (R240, R251). -/

namespace Sys2Proof.Machine

/-! ### Entry to RUN and its end (R28, R29, R133, R178, R212) -/

/-- Records that the run before left undelivered are counted as QUEUE_FULL and freed; of one in transfer the pin goes
(R178). -/
def State.dropRecords (s : State) : State :=
  s.trig.records.foldl (fun (s : State) e =>
    if e.2.inTransfer then s.setRecord e.1 { e.2 with pin := none } else s.recordFull e.1 e.2.queue) s

/-- A joiner restarts without the records that its partner holds (R341). -/
def State.forgetRecords (s : State) : State :=
  { s with
    trig := { s.trig with records := [] }
    host := { s.host with queues := s.host.queues.map (fun e => (e.1, { e.2 with line := [] })) } }

/-- Merge and log at entry to RUN at slice `c`: the log, the index and the reef ladder restart (R133); a joiner keeps
what it has of slice `c` and later (R341). -/
def History.restart (h : History) (c : Nat) (joining : Bool) : History :=
  let buckets := if joining then h.buckets.filter (fun e => sliceLe c e.1) else []
  let full := if joining then h.full.filter (fun e => sliceLe c e.1) else []
  { h.emptyIndex with
    buckets := buckets, full := full, seals := [], firstSlice := c, nextSeal := some c, lastSeal := none, nextClose := c,
    nextIndex := c, runStop := none, decided := [], head := 0, firstRun := c, oldest := c,
    newest := (c + sliceMod - 1) % sliceMod, stragglers := [], nextFinal := c, reef := 0, clearRun := 0 }

/-- The trigger engine at entry to RUN: no context, empty lists, prescale counters 0 (R161, R163, R166); the class record
numbers run on. -/
def Trigger.restart (t : Trigger) (c : Nat) (joining : Bool) : Trigger :=
  { t with
    bound := if joining then t.bound.filter (fun e => sliceLe c e.1) else []
    classes := t.classes.map (fun e => (e.1, { e.2 with prescale := 0, latest := none }))
    contexts := [], mults := [], refused := [] }

/-- Entry to RUN at slice `c` (R28, R133, R178, R252): FENCED when the twin role is FENCED. -/
def State.enterRun (s : State) (c : Nat) (joining : Bool) : State :=
  let s := if joining then s.forgetRecords else s.dropRecords
  let s := s.trig.contexts.foldl (fun (s : State) e => s.dropContext e.1) s
  let t := s.twin
  let s : State := { s with
    hist := s.hist.restart c joining
    trig := s.trig.restart c joining
    host := { s.host with deal := [] }
    twin := { t with
      slices := if joining then t.slices.filter (fun e => sliceLe c e.1) else []
      placed := []
      digests := if joining then t.digests.filter (fun e => sliceLe c e.1) else []
      seqs := [] } }
  (s.setStateRole (if s.sys.role = .fenced then .fenced else .run) s.sys.role).resumeHost

/-- RunControl 0 at slice `c`: the run tail begins, and no window reaches past the start of `c` (R29, R169). -/
def State.leaveRun (s : State) (c : Nat) : State :=
  let s : State := { s with hist := { s.hist with runStop := some c } }
  let s := (s.trig.contexts.map Prod.fst).foldl (fun (s : State) x => s.clip x) s
  s.setStateRole .standstill s.sys.role

/-- RunControl of the new epoch (R28, R29). -/
def State.runControl (s : State) (c : Nat) (joining : Bool) : State :=
  if s.conf cRunControl = 1 then (if s.sys.dev = .standstill || joining then s.enterRun c joining else s)
  else if s.running then s.leaveRun c else s

/-! ### Ports (R93, R94, R96, R97, R99, R116) -/

/-- A port leaves service and is DISABLED. -/
def State.disableNow (s : State) (p : Nat) : State :=
  let s := s.leaveService (.port ⟨p % 192, Nat.mod_lt _ (by decide)⟩)
  let x := s.port p
  s.setPort p { x with st := .disabled, since := s.tb.c, disableAt := none, start := none, loop := 0, goodRun := 0,
                       badMarkers := 0, own := [] }

/-- A command that the device sends by itself: 0 LOOP_ON, 1 LOOP_OFF, 2 DEEP_ENTER (R84); it goes out in the next frame of the
downlink, behind the marker where one is due (R85). -/
def State.sendCommand (s : State) (p op : Nat) : State :=
  s.setPort p { s.port p with own := (s.port p).own ++ [op] }

/-- A far-end loop is ended with LOOP_OFF (R97). -/
def State.loopOff (s : State) (p : Nat) : State :=
  let x := s.port p
  if x.st = .loop ∧ x.loop = 3 then s.sendCommand p 1 else s

/-- The port has data in service until its commit slice has sealed (R99). -/
def Port.inService (x : Port) : Bool :=
  decide (x.st = .active) || decide (x.st = .idle) || (decide (x.st = .lock) && x.realign)

/-- The PortEnable bit of port `p` is 0 from slice `c` on (R97, R99). -/
def State.disablePort (s : State) (c p : Nat) : State :=
  let x := s.port p
  if x.st = .disabled then s
  else if x.inService && s.hist.nextSeal.isSome then s.setPort p { x with disableAt := some c }
  else s.disableNow p

/-- The PortEnable bit of port `p` is 1: a disabled port starts from DETECT, or waits in DEEP with its lane group (R86,
R94). -/
def State.enablePort (s : State) (p : Nat) : State :=
  let x := { s.port p with disableAt := none }
  if x.st = .disabled then
    s.setPort p { x with st := if (s.group (p / 8)).phase = 0 then .detect else .deep, since := s.tb.c, goodRun := 0,
                         badMarkers := 0 }
  else s.setPort p x

/-- A port enters a loop (R96); in a far-end loop the frame that carries LOOP_ON is the last one before the pattern. -/
def State.startLoop (s : State) (p mode : Nat) : State :=
  let s := if mode = 3 then s.sendCommand p 0 else s
  let s := s.leaveService (.port ⟨p % 192, Nat.mod_lt _ (by decide)⟩)
  let x := s.port p
  (s.setPort p { x with st := .loop, since := s.tb.c, loop := mode, start := none, prbs := ⟨0#31, 0⟩,
                        lastSeq := if mode = 3 then some x.txSeq else none }).setStat (kPortLoopRefused p) 0

/-- LoopMode of port `p` at a commit that changes it, or that enables the port (R96, R97): a far-end loop needs an ACTIVE
port whose partner states it; a near-end loop a port that is neither quarantined nor in DEEP. -/
def State.loopPort (s : State) (p mode : Nat) : State :=
  let x := s.port p
  let looping := decide (x.st = .loop)
  let barred := decide (x.st = .disabled) || decide (x.st = .deep) || decide (x.st = .quarantine)
  if mode = 0 then
    let s := if looping then (s.loopOff p).toDetect (.port ⟨p % 192, Nat.mod_lt _ (by decide)⟩) else s
    s.setStat (kPortLoopRefused p) 0
  else if mode = 3 then
    if x.st = .active ∧ bit x.flags 2 then s.startLoop p 3
    else
      let s := if looping then (s.loopOff p).toDetect (.port ⟨p % 192, Nat.mod_lt _ (by decide)⟩) else s
      s.setStat (kPortLoopRefused p) 1
  else if barred then s.setStat (kPortLoopRefused p) 1
  else (s.loopOff p).startLoop p mode

/-- One port at the commit slice `c`, `a` and `b` being the configurations before and after. -/
def State.portCommit (s : State) (c : Nat) (a b : Tab Nat) (p : Nat) : State :=
  let get := fun (t : Tab Nat) (o : Obj) => Tab.get o.dflt t o.key
  let off := decide ((s.port p).st = .disabled)
  let s := if s.portEnabled p then s.enablePort p else s.disablePort c p
  let mode := get b (cPortLoopMode p)
  let s := if s.portEnabled p && (decide (get a (cPortLoopMode p) ≠ mode) || (off && decide (mode ≠ 0))) then
    s.loopPort p mode else s
  if get a (cPortDelayMode p) = get b (cPortDelayMode p) then s
  else
    let x := s.port p
    s.setPort p { x with timing := x.timing.setFixed (decide (get b (cPortDelayMode p) = 1)) }

/-- Lane group `g` is to be in DEEP: every port requests it or is disabled, and one that is enabled requests it (R93). -/
def State.wantsDeep (s : State) (g : Nat) : Bool :=
  (groupPorts g).all (fun p => !s.portEnabled p || decide (s.conf (cPortLowPower p) = 2)) &&
    (groupPorts g).any (fun p => s.portEnabled p)

/-- A commit from configuration `a` to `b` ends DEEP of lane group `g` (R94): it clears the DEEP request of a port, or a port is
enabled that does not request DEEP (R93). -/
def State.endsDeep (s : State) (a b : Tab Nat) (g : Nat) : Bool :=
  let low := fun (t : Tab Nat) (p : Nat) => Tab.get (cPortLowPower p).dflt t (cPortLowPower p).key
  (groupPorts g).any (fun p => decide (low b p ≠ 2) && (decide (low a p = 2) || s.portEnabled p))

/-- Lane group `g` at a commit slice: DEEP_ENTER on every downlink, or the power-up from DEEP (R93, R94). -/
def State.groupCommit (s : State) (a b : Tab Nat) (g : Nat) : State :=
  let x := s.group g
  if x.phase ≠ 0 ∧ s.endsDeep a b g then
    if x.phase = 1 then s.setGroup g LaneGroup.empty
    else if x.phase = 2 then s.setGroup g ⟨3, s.tb.c⟩
    else s
  else if s.wantsDeep g then
    if x.phase = 0 then
      let s := (groupPorts g).foldl (fun (s : State) p =>
        if (s.port p).st = .disabled then s else s.sendCommand p 2) s
      s.setGroup g ⟨1, s.tb.c⟩
    else s
  else s

/-! ### Feature processors (R211, R212, R341) -/

/-- A load or an initialisation that is made before the commit slice (R212): at entry to RUN the queue is emptied too. -/
def State.coreNow (s : State) (g : Nat) (load init entry : Bool) : State :=
  let was := s.core g
  let s := if load then s.loadCore g else if init then s.initCoreBanks g else s
  let x := s.core g
  s.setCore g { x with
    queue := if entry then [] else x.queue
    state := if load && was.running.isSome then .busy else x.state
    loadFrom := if entry then none else x.loadFrom
    offFrom := if entry || load then none else x.offFrom
    loadKind := if entry then 0 else x.loadKind }

/-- The enable of a core is cleared at slice `c`: it goes off when it has handled what lies before (R212); at entry to RUN its
queue is emptied as well. -/
def State.coreOff (s : State) (c : Nat) (entry : Bool) (g : Nat) : State :=
  let x := s.core g
  let gone := entry && x.running.isNone
  s.setCore g { x with
    state := if gone then .off else x.state
    queue := if entry then [] else x.queue
    offFrom := if gone then none else some c
    loadKind := if x.loading && !gone then x.loadKind else 0 }

/-- Core `g` at the commit slice `c`: `bank` is FpBankReset of the commit, `still` says that the device was in STANDSTILL
before it, `entry` that the commit takes it into RUN, `joining` that the commit is a join (R211, R212, R341). -/
def State.coreCommit (s : State) (c : Nat) (a b : Tab Nat) (bank : Nat) (still entry joining : Bool) (g : Nat) : State :=
  let get := fun (t : Tab Nat) (o : Obj) => Tab.get o.dflt t o.key
  let was := bit (get a cFpEnable) g
  let on := bit (get b cFpEnable) g
  let load := coreLoads a b (s.core g) g
  let init := coreInits b bank g || (on && entry)
  if !on then (if was then s.coreOff c entry g else s)
  else if joining then
    let s := s.coreNow g load true true
    s.setCore g { s.core g with loadFrom := some c }
  else if still then s.coreNow g load init entry
  else if load || init then
    s.setCore g { s.core g with loadFrom := some c, offFrom := none, loadKind := if load then 1 else 2 }
  else s

/-- At the join slice the partner that is already in RUN initialises the banks of every enabled core (R341). -/
def State.joinBanks (s : State) (j : Nat) : State :=
  ((List.range 24).foldl (fun (s : State) g =>
    if bit (s.conf cFpEnable) g then
      s.setCore g { s.core g with loadFrom := some j, loadKind := if (s.core g).loadKind = 1 then 1 else 2 }
    else s) s).tryLoads

/-! ### Ethernet (R52, R55) -/

/-- The PTP state of a port restarts; its link and its quality level stay. -/
def EthPort.restart (p : EthPort) : EthPort :=
  { EthPort.empty with link := p.link, ql := p.ql, esmcAt := p.esmcAt }

/-- The timebase at a commit (R50, R55). -/
def State.timeCommit (s : State) (a b : Tab Nat) : State :=
  let get := fun (t : Tab Nat) (o : Obj) => Tab.get o.dflt t o.key
  let differ := fun (o : Obj) => decide (get a o ≠ get b o)
  let one := fun (s : State) (e : EthId) =>
    if (differ (cEthPtpEnable e.val) && decide (get b (cEthPtpEnable e.val) = 0)) || differ (cEthDelayMechanism e.val) ||
        differ (cEthDomain e.val) then s.setEth e (s.ethPort e).restart
    else s
  let s := (one (one s 0) 1).steer
  (if differ cPtpSelect then s.ptpSelected else s).pickSource

/-- A commit that changes an alert key sets the last accepted sequence of its slot to 0 (R174). -/
def State.keyCommit (s : State) (a b : Tab Nat) : State :=
  let get := fun (t : Tab Nat) (o : Obj) => Tab.get o.dflt t o.key
  { s with trig := { s.trig with
    alertSeq := s.trig.alertSeq.filter (fun e => decide (get a (cAlertKey e.1) = get b (cAlertKey e.1))) } }

/-! ### The commit -/

/-- The effects of a new epoch, `a` and `b` being the configurations before and after. -/
def State.commitEffects (s : State) (c : Nat) (a b : Tab Nat) (bank : Nat) (joining : Bool) : State :=
  let still := decide (s.sys.dev = .standstill)
  let s := s.runControl c joining
  let entry := (still || joining) && s.running
  let s := (List.range 192).foldl (fun (s : State) p => s.portCommit c a b p) s
  let s := (List.range 24).foldl (fun (s : State) g => s.groupCommit a b g) s
  let s := (List.range 24).foldl (fun (s : State) g => s.coreCommit c a b bank still entry joining g) s
  let s := s.powerPairs.tryLoads
  let s := s.setStat kMergeMarginShort (bnat (decide (133 < s.conf cSealDelay + s.conf cAcceptFuture)))
  let s := ((s.stayConfigure false).timeCommit a b).keyCommit a b
  ((s.tinsCommit c a b).monitorCommit a b).lightCommit a b

/-- The new configuration with its epoch number; FpBankReset reads 0 again (R211, R285). -/
def Cfg.applied (g : Cfg) (c : Nat) (table : Tab Nat) (number : BitVec 64) : Cfg :=
  let b := Tab.drop table cFpBankReset.key
  let same := decide (Tab.get 0 g.staging cFpBankReset.key = Tab.get 0 table cFpBankReset.key)
  { g with
    epoch := b, active := b, pending := none, past := ⟨c, number, b⟩ :: g.past, number := number, lastCommit := 2
    staging := if same then Tab.drop g.staging cFpBankReset.key else g.staging }

/-- The configuration `table` is in force from slice `c` on, as epoch `number` (R40, R285): journal, report, effects. -/
def State.applyCommit (s : State) (c : Nat) (table : Tab Nat) (number : BitVec 64) (joining : Bool) : State :=
  let a := s.cfg.epoch
  let s : State := { s with cfg := s.cfg.applied c table number }
  let s := s.journal 0x0010 srcDevice (jdata [(0, number.toNat), (8, c)])
  let s := s.reportAll 0 2 0x1033 (leBytes 8 number.toNat ++ leBytes 8 c)
  s.commitEffects c a s.cfg.epoch (Tab.get 0 table cFpBankReset.key) joining

/-- COMMIT_APPLY: the commit slice has begun (R40, R285). In FAULT no commit applies (R28). -/
def execCommitApply (dt : Nat) (s : State) : Host.Outcome State Fault Refusal :=
  let s := s.elapse dt
  .next <|
    match s.cfg.pending with
    | some (c, t) =>
      if sliceLe c s.slice && (s.running || decide (s.sys.dev = .standstill)) then s.applyCommit c t (s.cfg.number + 1) false
      else s
    | none => s

/-! ### Scrubbing (R41, R296, R297) -/

/-- The journal data of a field of the configuration: index and subindex, or the entry number of a table (R291). -/
def fieldData (k : Nat) : List (Nat × Nat) :=
  if k < 0x1000000 then [(0, k / 256), (2, k % 256)]
  else if k < 0x2000000 then [(4, k - 0x1000000)]
  else [(4, k - 0x2000000)]

/-- SCRUB_COMPARE: upsets have changed active fields, and every field is compared with its epoch value; a third
consecutive mismatch is stuck (R297). `corrected` counts the single-bit errors that the shadow's SECDED has corrected since the
comparison before (R296). -/
def execScrubCompare (dt : Nat) (upsets : List (Nat × Nat)) (corrected : Nat) (s : State) : Host.Outcome State Fault Refusal :=
  let s := (s.elapse dt).bump kShadowCorrected corrected
  let active := upsets.foldl (fun (t : Tab Nat) u => Tab.set (keyDefault u.1) t u.1 u.2) s.cfg.active
  let bad := (diffKeys active s.cfg.epoch).dedup
  let runs := bad.foldl (fun (t : Tab Nat) k => Tab.put t k (Tab.get 0 s.cfg.mismatch k + 1)) []
  let s : State := { s with cfg := { s.cfg with active := active, mismatch := runs } }
  .next ((runs.filter (fun e => decide (e.2 = 3))).foldl (fun (s : State) e =>
    (s.journal 0x0021 srcDevice (jdata (fieldData e.1))).bump kScrubStuck) s)

/-- SCRUB_RELOAD: at the next slice boundary mismatched fields take their epoch values (R297). -/
def execScrubReload (dt : Nat) (s : State) : Host.Outcome State Fault Refusal :=
  let s := s.elapse dt
  let bad := (diffKeys s.cfg.active s.cfg.epoch).dedup
  let s : State := { s with cfg := { s.cfg with active := s.cfg.epoch } }
  .next (bad.foldl (fun (s : State) k => (s.journal 0x0020 srcDevice (jdata (fieldData k))).bump kScrubReloads) s)

/-- A word of a set takes the value that another set holds. -/
def copyKey (k : Nat) (src dst : Tab Nat) : Tab Nat := Tab.set (keyDefault k) dst k (Tab.get (keyDefault k) src k)

/-- The configuration after the repair of an uncorrectable word (R296). -/
def Cfg.repaired (g : Cfg) (set : ShadowSet) (k : Nat) : Cfg :=
  match set with
  | .epoch => { g with epoch := copyKey k g.active g.epoch }
  | .staging => { g with staging := copyKey k g.epoch g.staging }
  | .pending => { g with pending := g.pending.map (fun p => (p.1, copyKey k g.epoch p.2)) }

/-- The number of a set (R291 code 0x0022). -/
def setNumber : ShadowSet → Nat
  | .epoch => 0 | .staging => 1 | .pending => 2

/-- SHADOW_REPAIR: an uncorrectable word of the shadow is rewritten (R296). -/
def execShadowRepair (dt : Nat) (set : ShadowSet) (field : Nat) (s : State) : Host.Outcome State Fault Refusal :=
  let s := s.elapse dt
  let s : State := { s with cfg := s.cfg.repaired set field }
  .next ((s.journal 0x0022 srcDevice (jdata (fieldData field ++ [(8, setNumber set)]))).bump kShadowRepairs)

/-- TMR_CORRECTION: one copy of a triple-redundant register disagreed and was rewritten (R296). -/
def execTmrCorrection (dt : Nat) (s : State) : Host.Outcome State Fault Refusal :=
  .next ((s.elapse dt).bump kTmrCorrected)

/-! ### The shadow tables of BAR0 (R240, R251) -/

/-- The fields of a group-table entry (R251): byte, size, highest value, value where it is out of range. -/
def groupFields : List (Nat × Nat × Nat × Nat) :=
  [(0, 8, 2 ^ 64 - 1, 0), (8, 1, 1, 0), (9, 1, 2, 0), (10, 2, 16383, 16383), (12, 4, 60000000, 60000000)]

/-- Bytes 0 to 15 of a group's entry in staging. -/
def State.groupEntry (s : State) (g : Nat) : List Byte :=
  groupFields.flatMap (fun f => leBytes f.2.1 (Tab.get 0 s.cfg.staging (groupKey g f.1)))

/-- A write of bytes of a group's entry (R251): each field that it touches is stored, or clamped and reported (R288,
R289). -/
def State.groupWrite (s : State) (g off : Nat) (b : List Byte) : State :=
  let e := overlay (s.groupEntry g) b off
  groupFields.foldl (fun (s : State) f =>
    if f.1 + f.2.1 ≤ off ∨ off + b.length ≤ f.1 then s
    else
      let v := leAt e f.1 f.2.1
      if v ≤ f.2.2.1 then s.stage (groupKey g f.1) 0 v
      else (s.stage (groupKey g f.1) 0 f.2.2.2).clamp 0#32 (0xF000 + f.1) g 0xFE (BitVec.ofNat 64 v)
        (BitVec.ofNat 64 f.2.2.2)) s

/-- A write of one entry of the channel-offset table; bits 30:24 are stored as 0 (R240). -/
def State.channelWrite (s : State) (entry v : Nat) : State :=
  s.stage (0x1000000 + entry) 0 (v % 2 ^ 24 + v / 2 ^ 31 % 2 * 2 ^ 31)

/-- A write of bytes of the MSI-X table; a vector that is unmasked while its message is pending sends it (R258; PCI
Express, log entry 8). -/
def State.msixWrite (s : State) (off : Nat) (b : List Byte) : State :=
  let v := off / 16
  let old := leBytes 16 (Tab.get msixReset s.host.msix v).toNat
  let new := BitVec.ofNat 128 (leNat (overlay old b (off % 16)))
  let s : State := { s with host := { s.host with msix := Tab.set msixReset s.host.msix v new } }
  if !new.getLsbD 96 && s.host.msixPending.contains v && s.canSignal then
    ({ s with host := { s.host with msixPending := s.host.msixPending.filter (· ≠ v) } } : State).sendMsix v
  else s

/-- A CAN session owns the shadow (R284). -/
def State.canOwns (s : State) : Bool :=
  match s.session s.cfg.owner with
  | some x => decide (x.transport ≠ .mailbox)
  | none => false

/-- BAR0_SHADOW_WRITE: an aligned write of 4 or 8 bytes to a shadow table or to the MSI-X table (R239, R240, R251, R284). -/
def execBar0ShadowWrite (dt : Nat) (offset size : Nat) (value : BitVec 64) (s : State) :
    Host.Outcome State Fault Refusal :=
  let s := s.elapse dt
  let b := leBytes size value.toNat
  .next <|
    if !s.barOpen then s
    else if isBadAccess 0 true offset size then s.badAccess
    else if 0x300000 ≤ offset ∧ offset < 0x308000 then s.msixWrite (offset - 0x300000) b
    else if s.canOwns then s.badAccess
    else if 0x10000 ≤ offset ∧ offset < 0x14000 then s.groupWrite ((offset - 0x10000) / 64) (offset % 64) b
    else if 0x400000 ≤ offset ∧ offset < 0x700000 then
      let e := (offset - 0x400000) / 4
      let s := s.channelWrite e (leNat (b.take 4))
      if size = 8 then s.channelWrite (e + 1) (leNat (b.drop 4)) else s
    else s

end Sys2Proof.Machine
end

