-- ==== Sys2Proof/Machine/FpFormatA.lean ====
section
/-! DEFINITION. The instructions of format A: the operation and its parallel moves (R218 to R227). Each is executed as the instruction at the
program counter of its core. -/

namespace Sys2Proof.Machine

/-- MV (R227). -/
def execMv (g : CoreId) (f : FmtA) (s : State) : Host.Outcome State Fault Refusal :=
  .next (s.fpIssue g (.mv g f))

/-- FMUL (R227). -/
def execFmul (g : CoreId) (f : FmtA) (s : State) : Host.Outcome State Fault Refusal :=
  .next (s.fpIssue g (.fmul g f))

/-- FMULR (R227). -/
def execFmulr (g : CoreId) (f : FmtA) (s : State) : Host.Outcome State Fault Refusal :=
  .next (s.fpIssue g (.fmulr g f))

/-- FMAC (R227). -/
def execFmac (g : CoreId) (f : FmtA) (s : State) : Host.Outcome State Fault Refusal :=
  .next (s.fpIssue g (.fmac g f))

/-- FMACR (R227). -/
def execFmacr (g : CoreId) (f : FmtA) (s : State) : Host.Outcome State Fault Refusal :=
  .next (s.fpIssue g (.fmacr g f))

/-- FMSB (R227). -/
def execFmsb (g : CoreId) (f : FmtA) (s : State) : Host.Outcome State Fault Refusal :=
  .next (s.fpIssue g (.fmsb g f))

/-- FMSBR (R227). -/
def execFmsbr (g : CoreId) (f : FmtA) (s : State) : Host.Outcome State Fault Refusal :=
  .next (s.fpIssue g (.fmsbr g f))

/-- ZERO (R227). -/
def execZero (g : CoreId) (f : FmtA) (s : State) : Host.Outcome State Fault Refusal :=
  .next (s.fpIssue g (.zero g f))

/-- LDA (R227). -/
def execLda (g : CoreId) (f : FmtA) (s : State) : Host.Outcome State Fault Refusal :=
  .next (s.fpIssue g (.lda g f))

/-- ADDW (R227). -/
def execAddw (g : CoreId) (f : FmtA) (s : State) : Host.Outcome State Fault Refusal :=
  .next (s.fpIssue g (.addw g f))

/-- SUBW (R227). -/
def execSubw (g : CoreId) (f : FmtA) (s : State) : Host.Outcome State Fault Refusal :=
  .next (s.fpIssue g (.subw g f))

/-- CMPW (R227). -/
def execCmpw (g : CoreId) (f : FmtA) (s : State) : Host.Outcome State Fault Refusal :=
  .next (s.fpIssue g (.cmpw g f))

/-- ABSA (R227). -/
def execAbsa (g : CoreId) (f : FmtA) (s : State) : Host.Outcome State Fault Refusal :=
  .next (s.fpIssue g (.absa g f))

/-- NEGA (R227). -/
def execNega (g : CoreId) (f : FmtA) (s : State) : Host.Outcome State Fault Refusal :=
  .next (s.fpIssue g (.nega g f))

/-- RNDA (R225). -/
def execRnda (g : CoreId) (f : FmtA) (s : State) : Host.Outcome State Fault Refusal :=
  .next (s.fpIssue g (.rnda g f))

/-- SHL1 (R227). -/
def execShl1 (g : CoreId) (f : FmtA) (s : State) : Host.Outcome State Fault Refusal :=
  .next (s.fpIssue g (.shl1 g f))

/-- SHR1 (R227). -/
def execShr1 (g : CoreId) (f : FmtA) (s : State) : Host.Outcome State Fault Refusal :=
  .next (s.fpIssue g (.shr1 g f))

/-- CPYA (R227). -/
def execCpya (g : CoreId) (f : FmtA) (s : State) : Host.Outcome State Fault Refusal :=
  .next (s.fpIssue g (.cpya g f))

/-- SUMA (R227). -/
def execSuma (g : CoreId) (f : FmtA) (s : State) : Host.Outcome State Fault Refusal :=
  .next (s.fpIssue g (.suma g f))

/-- DIFA (R227). -/
def execDifa (g : CoreId) (f : FmtA) (s : State) : Host.Outcome State Fault Refusal :=
  .next (s.fpIssue g (.difa g f))

/-- ANDW (R227). -/
def execAndw (g : CoreId) (f : FmtA) (s : State) : Host.Outcome State Fault Refusal :=
  .next (s.fpIssue g (.andw g f))

/-- ORW (R227). -/
def execOrw (g : CoreId) (f : FmtA) (s : State) : Host.Outcome State Fault Refusal :=
  .next (s.fpIssue g (.orw g f))

/-- XORW (R227). -/
def execXorw (g : CoreId) (f : FmtA) (s : State) : Host.Outcome State Fault Refusal :=
  .next (s.fpIssue g (.xorw g f))

/-- DMUL (R227). -/
def execDmul (g : CoreId) (f : FmtA) (s : State) : Host.Outcome State Fault Refusal :=
  .next (s.fpIssue g (.dmul g f))

/-- DMAC (R227). -/
def execDmac (g : CoreId) (f : FmtA) (s : State) : Host.Outcome State Fault Refusal :=
  .next (s.fpIssue g (.dmac g f))

/-- DMSB (R227). -/
def execDmsb (g : CoreId) (f : FmtA) (s : State) : Host.Outcome State Fault Refusal :=
  .next (s.fpIssue g (.dmsb g f))

/-- DMACR (R227). -/
def execDmacr (g : CoreId) (f : FmtA) (s : State) : Host.Outcome State Fault Refusal :=
  .next (s.fpIssue g (.dmacr g f))

/-- SMAC (R227). -/
def execSmac (g : CoreId) (f : FmtA) (s : State) : Host.Outcome State Fault Refusal :=
  .next (s.fpIssue g (.smac g f))

end Sys2Proof.Machine
end

