-- ==== Sys2Proof/Machine/FpFormatB.lean ====
section
/-! DEFINITION. The instructions of format B (R228 to R235). Each is executed as the instruction at the
program counter of its core. -/

namespace Sys2Proof.Machine

/-- NOP (R228). -/
def execNop (g : CoreId) (s : State) : Host.Outcome State Fault Refusal :=
  .next (s.fpIssue g (.nop g))

/-- LDI (R228). -/
def execLdi (g : CoreId) (d : BitVec 3) (i : BitVec 24) (s : State) : Host.Outcome State Fault Refusal :=
  .next (s.fpIssue g (.ldi g d i))

/-- ADDI (R228). -/
def execAddi (g : CoreId) (d : BitVec 3) (i : BitVec 24) (s : State) : Host.Outcome State Fault Refusal :=
  .next (s.fpIssue g (.addi g d i))

/-- ANDI (R228). -/
def execAndi (g : CoreId) (d : BitVec 3) (i : BitVec 24) (s : State) : Host.Outcome State Fault Refusal :=
  .next (s.fpIssue g (.andi g d i))

/-- ORI (R228). -/
def execOri (g : CoreId) (d : BitVec 3) (i : BitVec 24) (s : State) : Host.Outcome State Fault Refusal :=
  .next (s.fpIssue g (.ori g d i))

/-- ADDD (R228). -/
def execAddd (g : CoreId) (d e f : BitVec 3) (s : State) : Host.Outcome State Fault Refusal :=
  .next (s.fpIssue g (.addd g d e f))

/-- SUBD (R228). -/
def execSubd (g : CoreId) (d e f : BitVec 3) (s : State) : Host.Outcome State Fault Refusal :=
  .next (s.fpIssue g (.subd g d e f))

/-- SRAI (R228). -/
def execSrai (g : CoreId) (d : BitVec 3) (n : BitVec 5) (s : State) : Host.Outcome State Fault Refusal :=
  .next (s.fpIssue g (.srai g d n))

/-- SLLI (R228). -/
def execSlli (g : CoreId) (d : BitVec 3) (n : BitVec 5) (s : State) : Host.Outcome State Fault Refusal :=
  .next (s.fpIssue g (.slli g d n))

/-- LDP (R228). -/
def execLdp (g : CoreId) (n : BitVec 3) (i : BitVec 16) (s : State) : Host.Outcome State Fault Refusal :=
  .next (s.fpIssue g (.ldp g n i))

/-- LDN (R228). -/
def execLdn (g : CoreId) (n : BitVec 3) (i : BitVec 16) (s : State) : Host.Outcome State Fault Refusal :=
  .next (s.fpIssue g (.ldn g n i))

/-- LEA (R228). -/
def execLea (g : CoreId) (d src : BitVec 3) (i : BitVec 16) (s : State) : Host.Outcome State Fault Refusal :=
  .next (s.fpIssue g (.lea g d src i))

/-- RDR (R229). -/
def execRdr (g : CoreId) (d : BitVec 3) (src : BitVec 5) (s : State) : Host.Outcome State Fault Refusal :=
  .next (s.fpIssue g (.rdr g d src))

/-- WRR (R229). -/
def execWrr (g : CoreId) (d : BitVec 5) (src : BitVec 3) (s : State) : Host.Outcome State Fault Refusal :=
  .next (s.fpIssue g (.wrr g d src))

/-- GETA (R228). -/
def execGeta (g : CoreId) (d : BitVec 3) (a x : BitVec 2) (s : State) : Host.Outcome State Fault Refusal :=
  .next (s.fpIssue g (.geta g d a x))

/-- LDX (R228). -/
def execLdx (g : CoreId) (d : BitVec 3) (ea : MemOp) (s : State) : Host.Outcome State Fault Refusal :=
  .next (s.fpIssue g (.ldx g d ea))

/-- STX (R228). -/
def execStx (g : CoreId) (d : BitVec 3) (ea : MemOp) (s : State) : Host.Outcome State Fault Refusal :=
  .next (s.fpIssue g (.stx g d ea))

/-- LDY (R228). -/
def execLdy (g : CoreId) (d : BitVec 3) (ea : MemOp) (s : State) : Host.Outcome State Fault Refusal :=
  .next (s.fpIssue g (.ldy g d ea))

/-- STY (R228). -/
def execSty (g : CoreId) (d : BitVec 3) (ea : MemOp) (s : State) : Host.Outcome State Fault Refusal :=
  .next (s.fpIssue g (.sty g d ea))

/-- MAXS (R232). -/
def execMaxs (g : CoreId) (a : BitVec 2) (ea : MemOp) (k : BitVec 3) (s : State) : Host.Outcome State Fault Refusal :=
  .next (s.fpIssue g (.maxs g a ea k))

/-- CMPM (R228). -/
def execCmpm (g : CoreId) (a : BitVec 2) (ea : MemOp) (s : State) : Host.Outcome State Fault Refusal :=
  .next (s.fpIssue g (.cmpm g a ea))

/-- FTAP (R234). -/
def execFtap (g : CoreId) (a : BitVec 2) (i j : BitVec 3) (s : State) : Host.Outcome State Fault Refusal :=
  .next (s.fpIssue g (.ftap g a i j))

/-- DIVS (R233). -/
def execDivs (g : CoreId) (a : BitVec 2) (d : BitVec 3) (s : State) : Host.Outcome State Fault Refusal :=
  .next (s.fpIssue g (.divs g a d))

/-- IMUL (R228). -/
def execImul (g : CoreId) (a : BitVec 2) (src t : BitVec 3) (s : State) : Host.Outcome State Fault Refusal :=
  .next (s.fpIssue g (.imul g a src t))

/-- IMAC (R228). -/
def execImac (g : CoreId) (a : BitVec 2) (src t : BitVec 3) (s : State) : Host.Outcome State Fault Refusal :=
  .next (s.fpIssue g (.imac g a src t))

/-- SRAA (R228). -/
def execSraa (g : CoreId) (a : BitVec 2) (n : BitVec 6) (s : State) : Host.Outcome State Fault Refusal :=
  .next (s.fpIssue g (.sraa g a n))

/-- SLLA (R228). -/
def execSlla (g : CoreId) (a : BitVec 2) (n : BitVec 6) (s : State) : Host.Outcome State Fault Refusal :=
  .next (s.fpIssue g (.slla g a n))

/-- LOOP (R197). -/
def execLoop (g : CoreId) (c : BitVec 16) (n : BitVec 14) (s : State) : Host.Outcome State Fault Refusal :=
  .next (s.fpIssue g (.loop g c n))

/-- LOOPR (R197). -/
def execLoopr (g : CoreId) (d : BitVec 3) (n : BitVec 14) (s : State) : Host.Outcome State Fault Refusal :=
  .next (s.fpIssue g (.loopr g d n))

/-- JUMP (R228). -/
def execJump (g : CoreId) (addr : BitVec 14) (s : State) : Host.Outcome State Fault Refusal :=
  .next (s.fpIssue g (.jump g addr))

/-- J_CC (R230). -/
def execJcc (g : CoreId) (cc : BitVec 4) (addr : BitVec 14) (s : State) : Host.Outcome State Fault Refusal :=
  .next (s.fpIssue g (.jcc g cc addr))

/-- EXIT_CC (R231). -/
def execExitcc (g : CoreId) (cc : BitVec 4) (s : State) : Host.Outcome State Fault Refusal :=
  .next (s.fpIssue g (.exitcc g cc))

/-- EMIT (R235). -/
def execEmit (g : CoreId) (d e : BitVec 3) (s : State) : Host.Outcome State Fault Refusal :=
  .next (s.fpIssue g (.emit g d e))

/-- PRIM (R235). -/
def execPrim (g : CoreId) (d : BitVec 3) (k : BitVec 6) (s : State) : Host.Outcome State Fault Refusal :=
  .next (s.fpIssue g (.prim g d k))

/-- DONE (R200). -/
def execDone (g : CoreId) (s : State) : Host.Outcome State Fault Refusal :=
  .next (s.fpIssue g (.done g))

/-- SATU (R226). -/
def execSatu (g : CoreId) (d : BitVec 3) (a : BitVec 2) (s : State) : Host.Outcome State Fault Refusal :=
  .next (s.fpIssue g (.satu g d a))

end Sys2Proof.Machine
end

