-- ==== Sys2Proof/Machine/TwinRows.lean ====
section
/-! DEFINITION. Twin operation (12_twin_operation.md): the halyard lease (R322 to R324), roles and fences, takeover (R337,
R338), what a follower takes from the stay link (R327 to R336), joins (R341), the stay link's frames (R317). -/

namespace Sys2Proof.Machine

/-! ### Terms and fences (R323, R324) -/

/-- A term that was seen raises HighestTerm (R323). -/
def State.seeTerm (s : State) (t : BitVec 32) : State :=
  if s.twin.highest.toNat < t.toNat then { s with twin := { s.twin with highest := t } } else s

/-- A mainmast fences (R320, R324, R343): its lease is gone, transfers stop without completion entries, and with the stay
link up its history stays usable. -/
def State.fence (s : State) (cause : Nat) : State :=
  if s.sys.role ≠ .mainmast then s
  else
    let s : State := { s with twin := { s.twin with
      lease := none, waiting := none, takeoverAt := none, joinAt := none
      ready := if s.twin.partnerUp && decide (cause ≠ 6) then 2 else 0 } }
    let s := ((s.toRole .fenced).setStat kLastFenceCause cause).bump kFences
    (s.journal 0x0802 srcDevice (jdata [(0, cause), (4, s.twin.highest.toNat)])).abortTransfers

/-- A term seen in a lease message or from the partner: a higher one fences a mainmast (R323, R324). -/
def State.meetTerm (s : State) (t : BitVec 32) (cause : Nat) : State :=
  if s.twin.highest.toNat < t.toNat then (s.seeTerm t).fence cause else s

/-- A GRANT is ignored and counted (R322, R323, R343 code 0x080D). -/
def State.leaseIgnored (s : State) (reason : Nat) (term : BitVec 32) : State :=
  (s.bump kLeaseIgnored).journal 0x080D srcDevice (jdata [(0, reason), (4, term.toNat)])

/-- A unit that may be granted the lease (R320). -/
def State.eligible (s : State) : Bool := decide (s.twin.ready = 2) || decide (s.twin.ready = 4) || decide (s.twin.highest = 0#32)

/-- A new grant is accepted (R323): the takeover slice is named and announced. -/
def State.acceptGrant (s : State) (term : BitVec 32) : State :=
  let c := roundUpSlice (s.now + BitVec.ofNat 64 (8 * sliceFu))
  let s : State := { s with twin := { s.twin with
    highest := term, lease := some ⟨term, s.tb.c⟩, waiting := none, takeoverAt := some c
    grantReady := if s.eligible then s.twin.ready else 0 } }
  s.say (.takeover term c)

/-- The lease that this unit holds has not expired (R323, R324). -/
def State.leaseValid (s : State) : Bool :=
  match s.twin.lease with
  | some l => decide (s.since l.renewed < usFu (s.conf cLeaseTime))
  | none => false

/-- A GRANT for this unit (R323). A higher term is seen, and fences a mainmast, also where the GRANT is then ignored or has to
wait (R324). -/
def State.ownGrant (s : State) (term leaseUs : BitVec 32) : State :=
  if term.toNat < s.twin.highest.toNat then s.leaseIgnored 1 term
  else
    let new := decide (term ≠ s.twin.highest)
    let s := s.meetTerm term 3
    if leaseUs.toNat ≠ s.conf cLeaseTime then s.leaseIgnored 2 term
    else if new then
      if s.twin.helm then s.acceptGrant term
      else { s with twin := { s.twin with waiting := some term, waitC := s.tb.c } }
    else
      match s.twin.lease with
      | some l =>
        if l.term = term ∧ s.leaseValid = true then { s with twin := { s.twin with lease := some ⟨term, s.tb.c⟩ } } else s
      | none => s

/-! ### Lease messages (R269, R270, R322) -/

/-- The term, the lease time and the serial number of a lease message (R322). -/
def leaseTerm (f : CanFrame) : BitVec 32 := leHalf f.data 0

def leaseUs (f : CanFrame) : BitVec 32 := leHalf f.data 4

def leaseSerial (f : CanFrame) : BitVec 64 := leWord f.data 8

/-- A lease message of class `cls` is heard: from source node 254, by a paired unit that runs (R315, R322). -/
def State.hearsLease (s : State) (cls : Nat) (f : CanFrame) : Bool :=
  canFormed f && decide (canCls f = cls) && decide (canSrc f = 254) && s.paired && s.serving

/-- A lease message is addressed to this node (R322). -/
def State.forMe (s : State) (f : CanFrame) : Bool := decide (canDst f = s.ownNode)

/-- GRANT: for any unit it shows its term; for this one it renews the lease or grants it (R322 to R324). In FAULT no
grant is accepted (R31, log entry 24). `helm` is the level of HELM_IN. -/
def execGrant (dt : Nat) (frame : CanFrame) (helm : Bool) (s : State) : Host.Outcome State Fault Refusal :=
  let s := s.elapse dt
  let s : State := { s with twin := { s.twin with helm := helm } }
  .next <|
    if !s.hearsLease 0 frame then s
    else if !s.forMe frame then s.meetTerm (leaseTerm frame) 3
    else if leaseSerial frame ≠ Config.serial then (s.meetTerm (leaseTerm frame) 3).bump kLeaseIgnored
    else if s.sys.dev = .fault then s.meetTerm (leaseTerm frame) 3
    else s.ownGrant (leaseTerm frame) (leaseUs frame)

/-- HELM_IN_HIGH: a grant that waits for HELM_IN is accepted within 1 ms (R323), unless a higher term has been seen since. -/
def execHelmInHigh (dt : Nat) (s : State) : Host.Outcome State Fault Refusal :=
  let s := s.elapse dt
  let s : State := { s with twin := { s.twin with helm := true } }
  .next <|
    match s.twin.waiting with
    | some t =>
      if s.since s.twin.waitC ≤ usFu 1000 then
        if t.toNat < s.twin.highest.toNat then
          ({ s with twin := { s.twin with waiting := none } } : State).leaseIgnored 1 t
        else s.acceptGrant t
      else s
    | none => s

/-- GRANT_HELM_TIMEOUT: HELM_IN has not gone high within 1 ms of a grant (R323). -/
def execGrantHelmTimeout (dt : Nat) (s : State) : Host.Outcome State Fault Refusal :=
  let s := s.elapse dt
  .next <|
    match s.twin.waiting with
    | some t =>
      if usFu 1000 < s.since s.twin.waitC then
        ({ s with twin := { s.twin with waiting := none } } : State).leaseIgnored 3 t
      else s
    | none => s

/-- The partner reports MAINMAST in a term (R319, R340). -/
def State.partnerHolds (s : State) (term : BitVec 32) : Bool :=
  s.twin.partnerUp && (match s.twin.partner with | some h => decide (h.role = 1#8 ∧ h.term = term) | none => false)

/-- An ASSIGN of a role, 2 MIZZEN or 3 FENCED (R322). -/
def State.hearsAssign (s : State) (role : Nat) (f : CanFrame) : Bool := s.hearsLease 1 f && decide (leAt f.data 4 1 = role)

/-- ASSIGN_MIZZEN: a FENCED unit follows its partner (R319, R340). -/
def execAssignMizzen (dt : Nat) (frame : CanFrame) (s : State) : Host.Outcome State Fault Refusal :=
  let s := s.elapse dt
  let term := leaseTerm frame
  .next <|
    if !s.hearsAssign 2 frame then s
    else
      let old := s.twin.highest
      let s := s.meetTerm term 3
      if !s.forMe frame then s
      else if leaseSerial frame ≠ Config.serial then s.bump kLeaseIgnored
      else if s.sys.role = .fenced ∧ s.sys.dev ≠ .fault ∧ old.toNat ≤ term.toNat ∧ s.partnerHolds term = true then
        ({ s with twin := { s.twin with deciding := false, following := !s.twin.left } } : State).toRole .mizzen
      else s

/-- ASSIGN_FENCED: a mainmast fences, a mizzen takes role FENCED (R319, R324). -/
def execAssignFenced (dt : Nat) (frame : CanFrame) (s : State) : Host.Outcome State Fault Refusal :=
  let s := s.elapse dt
  .next <|
    if !s.hearsAssign 3 frame then s
    else if !s.forMe frame then s.meetTerm (leaseTerm frame) 3
    else if leaseSerial frame ≠ Config.serial then (s.meetTerm (leaseTerm frame) 3).bump kLeaseIgnored
    else
      let s := (s.fence 5).seeTerm (leaseTerm frame)
      if s.sys.role = .mizzen then s.toRole .fenced else s

/-- LEASE_EXPIRED: LeaseTime has passed on a mainmast since the latest renewal (R324). -/
def execLeaseExpired (dt : Nat) (s : State) : Host.Outcome State Fault Refusal :=
  let s := s.elapse dt
  .next (if s.leaseValid then s else s.fence 1)

/-- HELM_LOW: HELM_IN has been low for more than 1 µs (R324). -/
def execHelmLow (dt : Nat) (s : State) : Host.Outcome State Fault Refusal :=
  let s := s.elapse dt
  .next (({ s with twin := { s.twin with helm := false } } : State).fence 2)

/-! ### Snapshots and STATUS (R322, R335, R336) -/

/-- The completed-through sequence (R335): the number before the oldest record that is held, or before the next. -/
def State.completedThrough (s : State) : BitVec 64 :=
  (s.trig.records.foldl (fun (m : BitVec 64) e => if (e.2.seq - m).toInt < 0 then e.2.seq else m) s.trig.recordSeq) - 1

/-- The 64 bytes of STATUS (R322). -/
def State.statusBytes (s : State) : List Byte :=
  let bits := bnat s.twin.partnerUp + 2 * bnat s.twin.helm + 4 * bnat s.leaseValid + 8 * bnat s.eligible
  leBytes 4 s.twin.highest.toNat ++ leBytes 1 s.sys.role.num ++ leBytes 1 s.sys.dev.num ++ leBytes 1 s.readyShown ++
    leBytes 1 bits ++ leBytes 8 Config.serial.toNat ++ leBytes 6 s.hist.newest ++ leBytes 2 0 ++
    leBytes 8 s.completedThrough.toNat ++ leBytes 4 s.leaseRemaining

/-- STATUS: the periodic report to the arbiter, or the one within 1 ms of a change (R322). -/
def execStatus (dt : Nat) (s : State) : Host.Outcome State Fault Refusal :=
  let s := s.elapse dt
  .next (if s.paired && s.serving then s.leaseSend 2 s.statusBytes else s)

/-- The snapshot of this moment (R335): records not held any more are done; the pins are those of records in transfer. -/
def State.takeSnapshot (s : State) : Snapshot :=
  let through := s.completedThrough
  let n := min 4096 (s.trig.recordSeq - through - 1).toNat
  let held := s.trig.records.map (fun e => e.2.seq.toNat)
  let seqs := (List.range n).map (fun i => (through + BitVec.ofNat 64 (i + 1)).toNat)
  let pins := (s.trig.records.filter (fun e => e.2.inTransfer)).filterMap (fun e =>
    (e.2.pinAt s.tb.c).map (fun p => (e.2.seq, BitVec.ofNat 64 (p % s.logWords))))
  ⟨s.twin.snapNo + 1, s.twin.highest, s.slice, s.cfg.number, through, s.trig.recordSeq, s.hist.oldest,
    seqs.filter (fun q => !held.contains q), pins.take 64⟩

/-- SNAPSHOT_TAKE: the deciding unit of a pair takes and sends a snapshot at a slice that is a multiple of 1,024 (R335). -/
def execSnapshotTake (dt : Nat) (s : State) : Host.Outcome State Fault Refusal :=
  let s := s.elapse dt
  .next <|
    if s.forwards && s.stayUp && decide (s.slice % 1024 = 0) then
      let p := s.takeSnapshot
      let s : State := { s with twin := { s.twin with snapNo := p.number } }
      (s.say (.snapshot p (crc32c (snapshotBytes p)))).bump64 kSnapshotsSent
    else s

/-- The pin of a held record moves to the word that a snapshot names (R330); the word is taken as the first at or after
the pin, as a pin only moves on. -/
def State.movePinTo (s : State) (e : BitVec 64 × BitVec 64) : State :=
  match s.record e.1.toNat with
  | some r =>
    let w := s.logWords
    s.setRecord e.1.toNat { r with pin := r.pin.map (fun p => p + (e.2.toNat + w - p % w) % w) }
  | none => s

/-- The configuration epoch of a snapshot is compared with the unit's own: a unit that is joining adopts that of its partner at
the join slice (R336, R341). -/
def State.epochDiffers (s : State) (p : Snapshot) : Bool :=
  decide (p.epoch ≠ s.epochAt p.slice) && (!s.twin.joining ||
    (s.twin.joinState && (match s.twin.joinAt with | some j => sliceLe j p.slice | none => false)))

/-- A snapshot that has arrived whole with its CRC is committed (R330, R336). -/
def State.commitSnapshot (s : State) (p : Snapshot) : State :=
  let s := (s.bump64 kSnapshotsCommitted).setStat kLastSnapshotSlice p.slice
  let s : State := { s with twin := { s.twin with snapshot := some p } }
  let s := (s.trig.records.filter (fun e => p.reports e.2.seq)).foldl (fun (s : State) e => s.freeRecord e.1) s
  let s := p.pins.foldl State.movePinTo s
  let s := if s.epochDiffers p then (s.journal 0x0808 srcDevice (jdata [(0, p.slice)])).startJoin else s
  s.joinCheck

/-- A snapshot is discarded whole (R336). -/
def State.discardSnapshot (s : State) (number : BitVec 64) : State :=
  (s.bump kSnapshotsDiscarded).journal 0x0804 srcDevice (jdata [(0, number.toNat)])

/-! ### Takeover (R337 to R339) -/

/-- What becomes of a held record at the takeover slice `c` (R338). -/
def State.replayRecord (c : Nat) (r : State × Nat × Nat) (e : Nat × Record) : State × Nat × Nat :=
  if !sliceLt e.2.closing c then r
  else if e.2.hollow then
    ((r.1.loseOld e.2.binding e.2.trig.cls).freeRecord e.1, r.2.1, r.2.2 + 1)
  else (r.1.setRecord e.1 { e.2 with replay := true }, r.2.1 + 1, r.2.2)

/-- Every port measures its delay anew (R116, R337). -/
def State.reacquire (s : State) : State :=
  { s with ports := s.ports.map (fun e => (e.1, { e.2 with timing := e.2.timing.takeover })) }

/-- The unit takes MAINMAST at slice `c` (R319, R337 to R339, R343). -/
def State.takeOver (s : State) (c : Nat) : State :=
  let ready := s.twin.grantReady
  let s : State := { s with twin := { s.twin with
    takeoverAt := none, deciding := true, following := false, joining := false, joinAt := none, left := false, ready := 0
    takeoverC := some s.tb.up } }
  let r := s.trig.records.foldl (State.replayRecord c) (s, 0, 0)
  let s := ((r.1.reacquire.bump kTakeovers).setStat kLastTakeoverSlice c).setStat kReplaySetSize r.2.1
  let s := s.toRole .mainmast
  (s.journal 0x0803 srcDevice (jdata [(0, c), (6, ready), (8, r.2.1), (12, r.2.2)])).resumeHost

/-- TAKEOVER: the takeover slice has begun (R337). -/
def execTakeover (dt : Nat) (s : State) : Host.Outcome State Fault Refusal :=
  let s := s.elapse dt
  .next <|
    match s.twin.takeoverAt with
    | some c =>
      if sliceLe c s.slice && (decide (s.sys.role = .fenced) || decide (s.sys.role = .mizzen)) && decide (s.sys.dev ≠ .fault)
      then s.takeOver c else s
    | none => s

/-! ### What the partner sends (R318, R327 to R334) -/

/-- Forwarded messages are taken: the unit follows or joins, hears its partner and has not left (R326, R327, R341). -/
def State.listens (s : State) : Bool :=
  s.paired && (s.twin.following || s.twin.joining) && !s.twin.left && s.twin.partnerUp

/-- A command for a message of a type takes the first message of the received stream where it is of that type (R317, R318,
log entry 23). -/
def State.takePart (s : State) (ty : Nat) (f : State → StayPart → State) : State :=
  match firstMsg s.twin.rxBytes.length s.twin.rxBytes with
  | some (p, rest) => if p.type = ty then f { s with twin := { s.twin with rxBytes := rest } } p else s
  | none => s

/-- The same with the message that the payload spells and its number; a payload too short for its type is passed over. -/
def State.takeMsg (s : State) (ty : Nat) (f : State → BitVec 32 → StayMsg → State) : State :=
  s.takePart ty (fun s p => match stayMsgOf ty p.payload with | some m => f s p.num m | none => s)

/-- The decisions for slice `n` (R328, R329); placements for a slice that has closed already are applied at once (R341). -/
def State.takeSlice (s : State) (n level : Nat) (trigs : List FwdTrigger) (pl : List Placement) : State :=
  let s : State := { s with twin := { s.twin with sliceRx := n } }
  if sliceLt n s.hist.nextClose ∧ s.hist.nextSeal.isSome = true then s.applyPlacements n pl
  else
    let old := ((Tab.look s.twin.slices n).map (fun m => m.2.2)).getD []
    { s with twin := { s.twin with slices := Tab.put s.twin.slices n (level % 4, trigs, old ++ pl) } }

/-- SLICE: the decisions of the partner for a slice; it closes with SLICE_CLOSE (R328, R329). -/
def execSlice (dt : Nat) (s : State) : Host.Outcome State Fault Refusal :=
  .next <| (s.elapse dt).takeMsg 1 (fun s _ m =>
    match m with
    | .slice n level trigs pl => if s.listens then s.takeSlice n level trigs pl else s
    | _ => s)

/-- The digests of the partner are compared: by a mizzen, and by a unit that joins or whose history is usable (R320, R333). -/
def State.compares (s : State) : Bool :=
  s.listens && s.twin.following && (decide (s.sys.role = .mizzen) || s.twin.joining || decide (s.twin.ready ≠ 0))

/-- DIGEST: compared as soon as the unit's own entry exists (R333, R334). -/
def execDigest (dt : Nat) (s : State) : Host.Outcome State Fault Refusal :=
  .next <| (s.elapse dt).takeMsg 2 (fun s _ m =>
    match m with
    | .digest n digest recordSeq =>
      if s.compares then
        ({ s with twin := { s.twin with digests := Tab.put s.twin.digests n (digest, recordSeq) } } : State).compareDigest n
      else s
    | _ => s)

/-- DELAY: the partner's DA for a port from frame F on (R118, R327, R329). -/
def execDelay (dt : Nat) (s : State) : Host.Outcome State Fault Refusal :=
  .next <| (s.elapse dt).takeMsg 3 (fun s _ m =>
    match m with
    | .delay p f da => if s.listens && decide (p < 192) then s.takeDelay p f da else s
    | _ => s)

/-- START: the partner's start slice of a port (R98, R327). -/
def execStart (dt : Nat) (s : State) : Host.Outcome State Fault Refusal :=
  .next <| (s.elapse dt).takeMsg 4 (fun s _ m =>
    match m with
    | .start p n => if s.listens && decide (p < 192) then s.setPort p { s.port p with start := some n } else s
    | _ => s)

/-- The configuration that a forwarded commit makes (R318, R331): the epoch, the changes, and the unit's own local values
from its staging. -/
def State.forwardedTable (s : State) (base : Tab Nat) (changes : List (Nat × Nat)) : Tab Nat :=
  let shared := changes.foldl (fun (t : Tab Nat) e => Tab.set (keyDefault e.1) t e.1 e.2)
    (base.filter (fun e => !isLocalKey e.1))
  (s.cfg.staging.filter (fun e => isLocalKey e.1)).foldl (fun (t : Tab Nat) e => Tab.put t e.1 e.2) shared

/-- A commit of the partner is pending here for the same slice (R285, R318, R331). -/
def State.takeCommit (s : State) (n : Nat) (changes : List (Nat × Nat)) : State :=
  let t := s.forwardedTable s.cfg.epoch changes
  { s with cfg := { s.cfg with pending := some (n, t), staging := t, lastCommit := 1 } }

/-- COMMIT_MESSAGE: scheduled for its commit slice, and acknowledged (R285, R318). -/
def execCommitMessage (dt : Nat) (s : State) : Host.Outcome State Fault Refusal :=
  .next <| (s.elapse dt).takeMsg 5 (fun s num m =>
    match m with
    | .commit n changes => if s.listens then (s.takeCommit n changes).say (.ack num) else s
    | _ => s)

/-- The objects of a generator show the fields of an Arm (R63, R67). -/
def State.showPulse (s : State) (n : Nat) (f : PulseFields) : State :=
  ((((((((s.setImm (cPgMode n) f.mode.toNat).setImm (cPgStart n) f.start.toNat).setImm (cPgPeriod n) f.period.toNat).setImm
    (cPgWidth n) f.width.toNat).setImm (cPgCount n) f.count.toNat).setImm (cPgRoutes n) f.routes.toNat).setImm
    (cPgTriggerClass n) f.cls.toNat).setImm (cPgPolarity n) (bnat f.activeLow))

/-- The Arm of the partner with its outcome (R67). -/
def State.takeArm (s : State) (gen : Nat) (tr : Tw) (staged : PulseFields) (outcome : ArmOutcome) : State :=
  let old := (s.gen gen).nextPulse
  ((s.showPulse gen staged).armGen gen staged tr outcome).lampSchedule gen old

/-- ARM_MESSAGE: the Arm of the partner, acknowledged (R67, R318). -/
def execArmMessage (dt : Nat) (s : State) : Host.Outcome State Fault Refusal :=
  .next <| (s.elapse dt).takeMsg 6 (fun s num m =>
    match m with
    | .arm gen tr staged outcome =>
      if s.listens && decide (gen < 16) then (s.takeArm gen tr staged outcome).say (.ack num) else s
    | _ => s)

/-- IMAGE: an image that the partner has accepted (R209, R318). -/
def execImage (dt : Nat) (s : State) : Host.Outcome State Fault Refusal :=
  .next <| (s.elapse dt).takeMsg 7 (fun s num m =>
    match m with
    | .image slot bytes => if s.listens && decide (slot < 4) then (s.putImage slot bytes).say (.ack num) else s
    | _ => s)

/-- SNAPSHOT: committed where its CRC holds, otherwise discarded whole (R336). -/
def execSnapshot (dt : Nat) (s : State) : Host.Outcome State Fault Refusal :=
  .next <| (s.elapse dt).takePart 8 (fun s p =>
    if !s.listens then s
    else if decide (payloadMin 8 ≤ p.payload.length) && snapshotGood p.payload then s.commitSnapshot (snapshotOf p.payload)
    else s.discardSnapshot (leWord p.payload 0))

/-- TAKEOVER_MESSAGE: the partner has accepted a grant: this unit decides no more (R321, R324). -/
def execTakeoverMessage (dt : Nat) (s : State) : Host.Outcome State Fault Refusal :=
  .next <| (s.elapse dt).takeMsg 9 (fun s _ m =>
    match m with
    | .takeover term _ =>
      if !s.stayUp || decide (term.toNat < s.twin.highest.toNat) then s
      else
        let s := s.meetTerm term 4
        { s with twin := { s.twin with deciding := false, following := !s.twin.left } }
    | _ => s)

/-- The partner holds the mast in the highest term: this unit forwards nothing any more, and while it runs FENCED it has a
deciding partner and follows it (R321). -/
def State.yieldTo (s : State) (h : HelloMsg) : State :=
  if h.role = 1#8 ∧ s.twin.highest.toNat ≤ h.term.toNat ∧ s.sys.role ≠ .mainmast then
    { s with twin := { s.twin with
      deciding := false, following := (s.twin.following || decide (s.sys.dev = .fenced)) && !s.twin.left } }
  else s

/-- HELLO: the partner's role, term and state (R318, R321, R324, R341). -/
def execHello (dt : Nat) (s : State) : Host.Outcome State Fault Refusal :=
  .next <| (s.elapse dt).takeMsg 10 (fun s _ m =>
    match m with
    | .hello h =>
      if !s.stayUp then s
      else
        let s : State := { s with twin := { s.twin with partner := some h } }
        let s := (s.meetTerm h.term 4).yieldTo h
        if s.forwards && s.twin.joinState && decide (h.ready = 2#8) then
          { s with twin := { s.twin with joinAt := none } }
        else s
    | _ => s)

/-- HELLO_SEND: every 100 µs (R318); a unit that has left sends none (R326). -/
def execHelloSend (dt : Nat) (s : State) : Host.Outcome State Fault Refusal :=
  let s := s.elapse dt
  .next <|
    if s.twin.left then s
    else s.say (.hello ⟨BitVec.ofNat 8 s.sys.role.num, s.twin.highest, s.paired, BitVec.ofNat 8 s.readyShown, Config.serial⟩)

/-! ### Joins (R341) -/

/-- The first multiple of 1,024 at least 2,048 slices ahead (R341). -/
def joinSliceAfter (n : Nat) : Nat := (n + 2048 + 1023) / 1024 * 1024 % sliceMod

/-- The deciding unit answers a request to join with the join slice, the configuration in force there and the images. -/
def State.joinConfig (s : State) : State :=
  let j := joinSliceAfter s.slice
  let fields := (s.confTable j).filter (fun e => !isLocalKey e.1)
  let images := (List.range 4).map (fun i => (s.image i).getD [])
  let epoch := s.epochAt j
  let s : State := { s with twin := { s.twin with joinAt := some j, joinState := false } }
  (s.setStat kJoinSlice j).say (.join (.config j epoch fields images))

/-- The joiner notes the join slice and what it will apply there. -/
def State.takeJoinConfig (s : State) (j : Nat) (epoch : BitVec 64) (fields : List (Nat × Nat)) (images : List (List Byte)) :
    State :=
  ({ s with twin := { s.twin with
    joinAt := some j, joinEpoch := epoch, joinFields := fields, joinImages := images } } : State).setStat kJoinSlice j

/-- What a unit does with a JOIN (R341); each that it takes is acknowledged (R318). -/
def State.takeJoin (s : State) (num : BitVec 32) (m : JoinMsg) : State :=
  match m with
  | .request => if s.forwards then (s.say (.ack num)).joinConfig else s
  | .config j e f b => if s.twin.joining then (s.takeJoinConfig j e f b).say (.ack num) else s
  | .state st => if s.twin.joining then ((s.takeJoinState st).say (.ack num)).joinCheck else s

/-- JOIN_MESSAGE: a request, the configuration, or the state at the join slice (R341). -/
def execJoinMessage (dt : Nat) (s : State) : Host.Outcome State Fault Refusal :=
  .next <| (s.elapse dt).takeMsg 11 (fun s num m =>
    match m with
    | .join j => if s.stayUp then s.takeJoin num j else s
    | _ => s)

/-- The joiner's images become those of its partner. -/
def State.takeImages (s : State) (l : List (List Byte)) : State :=
  (List.range 4).foldl (fun (s : State) i =>
    match l.getD i [] with
    | [] => { s with cfg := { s.cfg with images := Tab.drop s.cfg.images i } }
    | b => if s.image i = some b then s else s.putImage i b) s

/-- The joiner applies the configuration at the join slice `j` as a commit, with RUN, and follows (R341 step 2);
the snapshots of an earlier pairing say nothing any more. -/
def State.joinHere (s : State) (j : Nat) : State :=
  let s := s.takeImages s.twin.joinImages
  let t := s.forwardedTable [] s.twin.joinFields
  let s : State := { s with
    cfg := { s.cfg with staging := t }
    twin := { s.twin with deciding := false, following := true, snapshot := none } }
  s.applyCommit j t s.twin.joinEpoch true

/-- JOIN_SLICE: the join slice has begun; the joiner applies the configuration, and the deciding unit initialises the banks
of its cores (R341). -/
def execJoinSlice (dt : Nat) (s : State) : Host.Outcome State Fault Refusal :=
  let s := s.elapse dt
  .next <|
    match s.twin.joinAt with
    | none => s
    | some j =>
      if !sliceLe j s.slice || decide (s.sys.dev = .fault) then s
      else if s.twin.joining then
        if s.hist.firstRun = j ∧ s.running = true then s
        else (s.journal 0x0809 srcDevice (jdata [(0, j)])).joinHere j
      else if s.twin.joinState then s
      else
        let s := s.journal 0x0809 srcDevice (jdata [(0, j)])
        ({ s with twin := { s.twin with joinState := true } } : State).joinBanks j

/-! ### The stay link's frames and its loss (R316 to R318) -/

/-- Held responses are sent, and their sessions keep them (R278, R318). -/
def State.releaseHeld (s : State) (l : List HeldResponse) : State :=
  l.foldl (fun (s : State) h =>
    let hd := headerOf h.request.bytes
    (s.keep hd.session hd.number h.bytes).sendMsg h.request.transport 9 h.request.node h.bytes) s

/-- ACK: the partner has taken a message (R318). -/
def execAck (dt : Nat) (s : State) : Host.Outcome State Fault Refusal :=
  .next <| (s.elapse dt).takeMsg 12 (fun s _ m =>
    match m with
    | .ack num =>
      let l := s.ctl.held.filter (fun h => decide (h.num = num))
      ({ s with ctl := { s.ctl with held := s.ctl.held.filter (fun h => decide (h.num ≠ num)) } } : State).releaseHeld l
    | _ => s)

/-- Send frames again, on the lanes in use in turn, each with its own sequence and counted (R316, R317). -/
def State.resend (s : State) : List StayFrame → State
  | [] => s
  | u :: us =>
    match s.nextLane with
    | some l => State.resend ((s.sendData l u.seq u.bytes).bump kStayRetransmits) us
    | none => s

/-- STAY_RETRANSMIT: 4 µs without an acknowledgement: every frame from the oldest on is sent again (R317). -/
def execStayRetransmit (dt : Nat) (s : State) : Host.Outcome State Fault Refusal :=
  let s := s.elapse dt
  .next <|
    match s.twin.unacked with
    | [] => s
    | f :: _ =>
      if s.since f.sentC < usFu 4 ∨ s.stayUp = false then s
      else
        let l := s.twin.unacked
        ({ s with twin := { s.twin with unacked := l.map (fun u => { u with sentC := s.tb.c }) } } : State).resend l

/-- The frames up to `seq` are acknowledged (R317). -/
def acknowledge (l : List StayFrame) (seq : BitVec 10) : List StayFrame :=
  if l.any (fun u => decide (u.seq = seq)) then (l.dropWhile (fun u => decide (u.seq ≠ seq))).drop 1 else l

/-- The oldest frame stands for the moment at which the acknowledged sequence advanced last (R317). -/
def restartOldest (c : BitVec 64) : List StayFrame → List StayFrame
  | [] => []
  | u :: us => { u with sentC := c } :: us

/-- A DATA frame goes on with the stream: it is the first one, or the one after the last received in order (R317). -/
def Twin.inOrder (t : Twin) (seq : BitVec 10) : Bool := decide (t.rxSeq = none) || decide (t.rxSeq = some (seq - 1))

/-- A good frame of an ACTIVE stay lane (R317): its acknowledgement is taken, a DATA frame in order adds to the stream, and
frames that waited for room go out. -/
def State.stayFrameIn (s : State) (f : Frame) : State :=
  let w := f.words.getD 0 0#64
  let t := s.twin
  let left := if wbits w 53 1 = 1 then acknowledge t.unacked (BitVec.ofNat 10 (wbits w 54 10)) else t.unacked
  let t := { t with unacked := if left.length < t.unacked.length then restartOldest s.tb.c left else left }
  let t := if decide (f.kind = 1#5) && t.inOrder f.seq then
      { t with rxSeq := some f.seq, rxBytes := t.rxBytes ++ streamBytes f.words }
    else t
  ({ s with twin := t } : State).pump t.txQueue

/-- STAY_LINK_FRAME: a DATA or FILL frame on a stay lane (R316, R317); its messages are commands of their own. -/
def execStayLinkFrame (dt : Nat) (lane : Fin 4) (wire : List Bool) (s : State) : Host.Outcome State Fault Refusal :=
  .next <| (s.elapse dt).frameRow (.stay lane) wire (· ≤ 1) (fun s f =>
    let r := (s.stayStray (.stay lane) f).frameIn (.stay lane) 0 wire f
    if r.2 then r.1.stayFrameIn f else r.1)

/-- A snapshot of which some bytes have come is discarded with its partner (R336); where its number has not come whole it is a
free value (log entry 6). -/
def State.loseSnapshot (s : State) : State :=
  let b := incomplete s.twin.rxBytes.length s.twin.rxBytes
  if decide (leAt b 0 1 = 8) && s.listens then
    if 16 ≤ b.length then s.discardSnapshot (leWord b 8) else s.nextFree.discardSnapshot s.freeVal
  else s

/-- The partner is lost (R316, R318, R320, R336, R341, R343). -/
def State.losePartner (s : State) : State :=
  let s := (s.journal 0x0805 srcDevice (jdata [(0, s.twin.sliceRx)])).loseSnapshot
  let held := s.ctl.held
  let wasReady := decide (s.twin.ready = 2)
  let s : State := { s with
    ctl := { s.ctl with held := [] }
    twin := { s.twin with
      partnerUp := false, partner := none, unacked := [], txQueue := [], rxSeq := none, rxBytes := [], joinAt := none
      joining := false
      following := s.twin.following && decide (s.sys.role = .mizzen)
      ready := if wasReady then 4 else s.twin.ready } }
  let s := s.releaseHeld held
  if wasReady && !(decide (s.sys.role = .mainmast)) then (s.requestArbiter 1).leaseSend 2 s.statusBytes else s

/-- PARTNER_LOST: no good frame on any lane for StayTimeout (R316). -/
def execPartnerLost (dt : Nat) (s : State) : Host.Outcome State Fault Refusal :=
  let s := s.elapse dt
  .next (if s.stayUp && decide (usFu (s.conf cStayTimeout) < s.since s.twin.lastRx) then s.losePartner else s)

/-- DRILL_OVERDUE: on a mizzen, once a day (R342). -/
def execDrillOverdue (dt : Nat) (s : State) : Host.Outcome State Fault Refusal :=
  let s := s.elapse dt
  let day := s.tb.up / (125000000 * 86400) + 1
  let warn := s.conf cDrillWarn
  .next <|
    if s.sys.role = .mizzen ∧ warn ≠ 0 ∧ warn * 86400 < s.takeoverAge ∧ s.twin.overdueDay ≠ day then
      ({ s with twin := { s.twin with overdueDay := day } } : State).journal 0x080C srcDevice
        (jdata [(0, s.takeoverAge / 86400)])
    else s

end Sys2Proof.Machine
end

