-- ==== Sys2Proof/Machine/Power.lean ====
section
/-! DEFINITION. Supplies, resets and straps (R407, R408, R417, R418), boot (R293, R295, R419), FAULT (R31), temperatures
(R413, R414), clocks (R416) and the loss of an HBM controller (R155). -/

namespace Sys2Proof.Machine

/-! ### Resets (R417, R418) -/

/-- The control-block counters, index 0x5000, which a device reset keeps (R417). -/
def keptCounters (t : Tab Nat) : Tab Nat := t.filter (fun e => decide (e.1 / 256 = 0x5000))

/-- The timebase across a device reset: the counter, b, cref, the anchor and the frequency sources stay, the servo is
FREERUN, and f becomes 0 at the first fold (R58, R417). -/
def Timebase.kept (t : Timebase) : Timebase :=
  { Timebase.empty with
    c := t.c, b := t.b, f := t.f, cref := t.cref, up := t.up, nextF := some 0, anchorValid := t.anchorValid,
    anchorTw := t.anchorTw, anchorSec := t.anchorSec, anchorNs := t.anchorNs, source := t.source,
    synceInRange := t.synceInRange, holdInRange := t.holdInRange }

/-- What the flash holds stays across every reset (R292). -/
def Cfg.flash (g : Cfg) : Cfg :=
  { Cfg.empty with
    store0 := g.store0, store1 := g.store1, dir0 := g.dir0, dir1 := g.dir1, versionA := g.versionA, versionB := g.versionB
    activeSlot := g.activeSlot }

/-- What HBM holds stays at every device reset (R43, R262): the log with its check words and failed blocks, the index ring, and
the two side logs. -/
def History.kept (h : History) : History :=
  let h := h.emptyIndex
  { History.empty with
    log := h.log, owners := h.owners, poisoned := h.poisoned, counted := h.counted, indexOld := h.indexOld
    badIndex := h.badIndex, stragLog := h.stragLog, lossLog := h.lossLog }

/-- The memories of a core stay at a device reset (R43); the core is off. -/
def Core.kept (c : Core) : Core :=
  { Core.empty with prog := c.prog, x := c.x, y := c.y, badP := c.badP, badX := c.badX, badY := c.badY }

/-- The context table and the record-header ring stay at a device reset, with every context free (R43, R262). -/
def State.keptTriggers (s : State) : Trigger :=
  { Trigger.empty with freed := (s.trig.contexts.foldl (fun (s : State) e => s.dropContext e.1) s).trig.freed }

/-- Device state at the start of BOOT (R28, R412, R417, R418): the straps are sampled; the pins, the rails and the TAP are
what they were. -/
def Sys.boot (x : Sys) (straps : BitVec 8) (cause : Nat) (role : Role) : Sys :=
  { Sys.afterPowerOn straps with
    role := role, rails := x.rails, cause := cause, ir := x.ir, tapData := x.tapData, jtagHeld := x.jtagHeld,
    perst := x.perst, refclk := x.refclk, vled := x.vled, hbmUntrained := x.hbmUntrained, misordered := x.misordered }

/-- The role at BOOT: FENCED on a paired unit, SOLO otherwise (R315). -/
def bootRole (twinMode : Nat) : Role := if twinMode = 1 then .fenced else .solo

/-- The straps of a node that reads 0 are journalled (R418). -/
def State.strapCheck (s : State) : State :=
  if s.sys.straps.toNat % 128 = 0 then s.journal 0x0052 srcDevice 0#128 else s

/-- A device reset with its cause: PD42, the journal, the device sequence, the counters of 0x5000, TwinMode and the contents of
the memories stay (R43, R271); BOOT begins (R417, R418). -/
def State.deviceReset (s : State) (straps : BitVec 8) (cause : Nat) : State :=
  let mode := s.imm cTwinMode
  ({ State.reset with
    pending := s.pending
    sys := s.sys.boot straps cause (bootRole mode)
    ctl := { Control.empty with
      seq := s.ctl.seq, journal := s.ctl.journal, jNext := s.ctl.jNext, jCount := s.ctl.jCount, slots := s.ctl.slots }
    cfg := { s.cfg.flash with imm := Tab.set cTwinMode.dflt [] cTwinMode.key mode }
    tb := s.tb.kept
    hist := s.hist.kept
    trig := s.keptTriggers
    cores := s.cores.map (fun e => (e.1, e.2.kept))
    twin := { Twin.empty with helm := s.twin.helm }
    stat := keptCounters s.stat
    out := s.out
    free := s.free } : State).strapCheck

/-- The state in POWERED: nothing runs, and the power-on reset that follows clears everything (R28, R417). -/
def State.powered (s : State) (rails : BitVec 9) : State :=
  { State.reset with
    pending := s.pending
    sys := { s.sys.boot s.sys.strapPins 0 .solo with dev := .powered, rails := rails, strapPins := s.sys.strapPins,
                                                     hbmUntrained := false
                                                     misordered := s.sys.misordered && decide (rails ≠ 0#9) }
    cfg := s.cfg.flash
    twin := { Twin.empty with helm := s.twin.helm }
    out := s.out
    free := s.free }

/-- The stored value of TwinMode, or 0 (R315). -/
def State.storedTwinMode (s : State) : Nat :=
  match s.cfg.store with | some c => Tab.get 0 c.imm cTwinMode.key | none => 0

/-- Power-on reset is released: BOOT begins with C = 0 and everything cleared (R44, R315, R417, R418, R420). -/
def State.powerOn (s : State) (straps : BitVec 8) : State :=
  let mode := s.storedTwinMode
  let s := s.powered s.sys.rails
  ({ s with
    sys := { s.sys.boot straps 0 (bootRole mode) with strapPins := straps }
    cfg := { s.cfg with imm := Tab.set cTwinMode.dflt [] cTwinMode.key mode } } : State).strapCheck

/-- SUPPLY_OUT_OF_RANGE: a supervised rail leaves its range: POWERED (R28, R407). -/
def execSupplyOutOfRange (dt : Nat) (rail : RailId) (s : State) : Host.Outcome State Fault Refusal :=
  let s := s.elapse dt
  .next (s.powered (s.sys.rails &&& ~~~(1#9 <<< rail.val)))

/-- The step in which each rail rises (R408), in the order of `RailId`. -/
def railStep (rail : RailId) : Nat := [3, 3, 4, 2, 1, 2, 2, 4, 1].getD rail.val 0

/-- A rail is in range while one of an earlier step is not: the order of R408 is broken. -/
def outOfOrder (rails : BitVec 9) (rail : RailId) : Bool :=
  (List.finRange 9).any (fun r => decide (railStep r < railStep rail) && !rails.getLsbD r.val)

/-- SUPPLY_IN_RANGE: a rail is in range again (R408). -/
def execSupplyInRange (dt : Nat) (rail : RailId) (s : State) : Host.Outcome State Fault Refusal :=
  let s := s.elapse dt
  .next { s with sys := { s.sys with
    rails := s.sys.rails ||| (1#9 <<< rail.val), misordered := s.sys.misordered || outOfOrder s.sys.rails rail } }

/-- POWER_ON_RESET_RELEASE: every supervised rail is in range (R28, R408). -/
def execPowerOnResetRelease (dt : Nat) (straps : BitVec 8) (s : State) : Host.Outcome State Fault Refusal :=
  let s := s.elapse dt
  .next (if s.sys.dev = .powered ∧ s.sys.rails = 0x1FF#9 then s.powerOn straps else s)

/-- A reset by a pin or the watchdog: none in POWERED, nor while the TAP holds the device in reset (R417, R422). -/
def State.pinReset (s : State) (straps : BitVec 8) (cause : Nat) : State :=
  let s : State := { s with sys := { s.sys with strapPins := straps } }
  if s.sys.dev = .powered ∨ s.sys.jtagHeld then s else s.deviceReset straps cause

/-- RESET_N: BOOT begins 100 µs after RESET_N rises (R417). -/
def execResetN (dt : Nat) (straps : BitVec 8) (s : State) : Host.Outcome State Fault Refusal :=
  .next ((s.elapse dt).pinReset straps 1)

/-- WATCHDOG: the firmware has been silent for 2 s (R417). -/
def execWatchdog (dt : Nat) (straps : BitVec 8) (s : State) : Host.Outcome State Fault Refusal :=
  .next ((s.elapse dt).pinReset straps 2)

/-! ### FAULT (R28, R31) -/

/-- Every lane is in DEEP and the downlinks stop (R31). -/
def State.lanesDown (s : State) : State :=
  let down := fun (x : Port) => { x with st := LinkState.deep, since := s.tb.c, start := none, disableAt := none, loop := 0 }
  let s := (List.range 192).foldl (fun (s : State) p =>
    let s := (s.keepDelays p).leaveService (.port ⟨p % 192, Nat.mod_lt _ (by decide)⟩)
    s.setPort p (down (s.port p))) s
  let s := (List.range 4).foldl (fun (s : State) l =>
    { s with stay := Tab.set Port.empty s.stay l (down (Tab.get Port.empty s.stay l)) }) s
  (List.range 24).foldl (fun (s : State) g => s.setGroup g ⟨2, s.tb.c⟩) s

/-- The pairs are powered down, and the data path stops: nothing seals, closes or is indexed any more (R31); QueueFill stays
(R308). -/
def State.dataDown (s : State) : State :=
  let s := s.cores.foldl (fun (s : State) e => s.setStat (kCoreQueueFill e.1) e.2.pendingBudget) s
  let s : State := { s with
    cores := s.cores.map (fun e => (e.1, { e.2 with
      state := .off, running := none, results := [], queue := [], loadFrom := none, offFrom := none, loadKind := 0 }))
    hist := { s.hist with nextSeal := none, seals := [], decided := [], written := [] }
    trig := { s.trig with bound := [] }
    sys := { s.sys with degradeDue := none } }
  s.powerPairs

/-- The twin in FAULT: a mainmast fences with cause 6, any paired unit takes role FENCED, and a SOLO unit stays SOLO (R31,
R319, R324); the stay link is down with its lanes. -/
def State.twinDown (s : State) : State :=
  let s := s.fence 6
  let held := s.ctl.held
  let s : State := { s with
    ctl := { s.ctl with held := [] }
    twin := { s.twin with partnerUp := false, partner := none, unacked := [], txQueue := [], rxSeq := none, rxBytes := [],
                          joinAt := none, joining := false, following := false, deciding := false, ready := 0, waiting := none, takeoverAt := none } }
  s.releaseHeld held

/-- Enter FAULT (R28, R31); `cause` is none where no rule gives the entry a cause. -/
def State.toFault (s : State) (cause : Option Nat) (detail : Nat) : State :=
  if s.sys.dev = .powered ∨ s.sys.dev = .fault then s
  else
    let s := match cause with
      | some c => s.journal 0x0002 srcDevice (jdata [(0, c), (4, detail)])
      | none => s
    let s := s.twinDown
    let s := (s.setStateRole .fault (if s.paired then .fenced else .solo)).abortTransfers
    let s := s.lanesDown.dataDown
    let s := s.tinsCommit s.slice s.cfg.epoch s.cfg.epoch
    s.monFault.lightOff

/-- The cause number of R31 that a command names. -/
def faultNumber : FaultCause → Nat
  | .tmr => 1 | .controllerMemory => 2 | .bothHbm => 3

/-- FAULT (R31). -/
def execFault (dt : Nat) (cause : FaultCause) (detail : BitVec 32) (s : State) : Host.Outcome State Fault Refusal :=
  .next ((s.elapse dt).toFault (some (faultNumber cause)) detail.toNat)

/-! ### BOOT (R28, R293, R295, R419) -/

/-- The slot that boots, and the slot that was tried before it in vain (R295). -/
def bootSlot (preferred : Nat) (a b : Bool) : Option (Nat × Option Nat) :=
  if preferred = 0 then (if a then some (0, none) else if b then some (1, some 0) else none)
  else (if b then some (1, none) else if a then some (0, some 1) else none)

/-- The versions of the two slots as they are found: 0 for an invalid one (R298). -/
def State.foundSlots (s : State) (a b : Option (BitVec 32)) : State :=
  { s with cfg := { s.cfg with versionA := a.getD 0#32, versionB := b.getD 0#32 } }

/-- The boot image is found: the slot, BOOT and BOOT_FALLBACK in the journal (R291, R295, R417). -/
def State.bootFrom (s : State) (slot : Nat) (tried : Option Nat) : State :=
  let s : State := { s with cfg := { s.cfg with activeSlot := slot } }
  let s := s.journal 0x0001 srcDevice (jdata [(0, s.sys.cause), (1, slot)])
  match tried with
  | some t => s.journal 0x0040 srcDevice (jdata [(0, t), (1, slot)])
  | none => s

/-- The shadowed objects as the store gives them: RunControl and FpBankReset are 0, and without a store everything is at its
factory default (R287, R293). -/
def Cfg.storedTable (g : Cfg) : Tab Nat :=
  match g.store with
  | some c => Tab.drop (Tab.drop c.table cRunControl.key) cFpBankReset.key
  | none => []

/-- The objects that act at once at a BOOT (R293, R307): the stored ones; TwinMode is what the reset left (R315), PreferredSlot
that of the flash directory (R298). -/
def State.bootImm (s : State) : Tab Nat :=
  let t := (s.cfg.store.map (·.imm)).getD []
  Tab.set cTwinMode.dflt (Tab.set cPreferredSlot.dflt t cPreferredSlot.key s.cfg.firstSlot) cTwinMode.key (s.imm cTwinMode)

/-- The store is loaded, or the factory defaults (R287, R293). -/
def State.loadStore (s : State) : State :=
  let t := s.cfg.storedTable
  let s : State := { s with cfg := { s.cfg with
    staging := t, epoch := t, active := t, pending := none, past := [⟨s.slice, 0#64, t⟩], number := 0#64
    imm := s.bootImm
    images := (s.cfg.store.map (·.images)).getD [] } }
  if s.cfg.store.isNone then s.journal 0x0032 srcDevice 0#128 else s

/-- BOOT ends in STANDSTILL: the restored configuration acts as a commit's does (R28, R293; DEDUCED, log entry 25). -/
def State.toStandstill (s : State) : State :=
  let s := s.loadStore
  let s := s.setStateRole .standstill s.sys.role
  s.commitEffects s.slice [] s.cfg.epoch 0 false

/-- BOOT_COMPLETE: BOOT has ended with these images found and these stacks trained (R28, R293, R295, R408, R419). -/
def execBootComplete (dt : Nat) (imageA imageB : Option (BitVec 32)) (hbm0 hbm1 : Bool) (s : State) :
    Host.Outcome State Fault Refusal :=
  let s := s.elapse dt
  .next <|
    if s.sys.dev ≠ .boot ∨ s.sys.bootHold = true ∨ s.sys.jtagHeld = true then s
    else
      let s := s.foundSlots imageA imageB
      match bootSlot s.cfg.firstSlot imageA.isSome imageB.isSome with
      | none => (s.journal 0x0001 srcDevice (jdata [(0, s.sys.cause), (1, s.cfg.firstSlot)])).toFault none 0
      | some (slot, tried) =>
        let s := s.bootFrom slot tried
        if !hbm0 || !hbm1 || s.sys.hbmUntrained then
          ({ s with sys := { s.sys with hbmUntrained := s.sys.misordered } } : State).toFault none 0
        else s.toStandstill

/-! ### Temperatures (R413, R414, R425) -/

/-- THERMAL_WARNING: DieTempMax above 100 °C (R414). -/
def execThermalWarning (dt : Nat) (temp : BitVec 16) (sensor : SensorId) (s : State) : Host.Outcome State Fault Refusal :=
  let s := s.elapse dt
  let s : State := { s with sys := { s.sys with die := temp } }
  .next <|
    if s.sys.warnArmed && decide (1600 < temp.toInt) && decide (s.sys.dev ≠ .powered) then
      let s : State := { s with sys := { s.sys with warnArmed := false } }
      (s.journal 0x0050 srcDevice (jdata [(0, temp.toNat), (2, sensor.val)])).bump kThermalWarnings
    else s

/-- THERMAL_CLEAR: DieTempMax below 95 °C after a warning (R414). -/
def execThermalClear (dt : Nat) (temp : BitVec 16) (sensor : SensorId) (s : State) : Host.Outcome State Fault Refusal :=
  let s := s.elapse dt
  let s : State := { s with sys := { s.sys with die := temp } }
  .next <|
    if !s.sys.warnArmed && decide (temp.toInt < 1520) then
      ({ s with sys := { s.sys with warnArmed := true } } : State).journal 0x0051 srcDevice
        (jdata [(0, temp.toNat), (2, sensor.val)])
    else s

/-- THERMAL_SHUTDOWN: above 115 °C for 1 ms: FAULT with cause 4 (R31, R414); the detail is not stated, and is a free
value (log entry 6). -/
def execThermalShutdown (dt : Nat) (temp : BitVec 16) (s : State) : Host.Outcome State Fault Refusal :=
  let s := s.elapse dt
  let s : State := { s with sys := { s.sys with die := temp } }
  .next (if 1840 < temp.toInt then s.nextFree.toFault (some 4) (s.freeVal.setWidth 32).toNat else s)

/-- The instruction that takes the IEEE 1500 wrapper of a stack (R422). -/
def wrapperOf (k : Nat) : BitVec 8 := BitVec.ofNat 8 (0x10 + k)

/-- HBM_TEMP_READ: the die's highest sensor in 1/16 °C and the stacks' sensors in °C, every 10 ms; a stack that reads above
85 °C is refreshed at the doubled rate (R143, R413, R414), one whose wrapper the TAP holds is not read (R422), and the
stacks are off in FAULT (R31). -/
def execHbmTempRead (dt : Nat) (die t0 t1 : BitVec 16) (s : State) : Host.Outcome State Fault Refusal :=
  let s := s.elapse dt
  let x := s.sys
  let on := decide (x.dev ≠ .fault) && decide (x.dev ≠ .powered)
  let a := if on && decide (x.ir ≠ wrapperOf 0) then t0 else x.stack0
  let b := if on && decide (x.ir ≠ wrapperOf 1) then t1 else x.stack1
  let top := max die.toInt (max (16 * a.toInt) (16 * b.toInt))
  .next { s with sys := { x with
    die := BitVec.ofInt 16 (if on then top else die.toInt), stack0 := a, stack1 := b,
    fast0 := decide (85 < a.toInt), fast1 := decide (85 < b.toInt) } }

/-! ### Clocks and the supplies that are not supervised (R407, R416) -/

/-- REFCLK_LOSS: REFCLK stops while no other source is qualified, or returns; a return is journalled after a loss that was
(R416, R425). -/
def execRefclkLoss (dt : Nat) (returned : Bool) (s : State) : Host.Outcome State Fault Refusal :=
  let s := s.elapse dt
  .next <|
    if returned then
      let noted := s.sys.refclkNoted
      let s : State := { s with sys := { s.sys with refclk := true, refclkNoted := false } }
      if noted then s.journal 0x0053 srcDevice (jdata [(0, 1)]) else s
    else
      let s : State := { s with sys := { s.sys with refclk := false } }
      if s.synceQualified || s.holdQualified || s.sys.refclkNoted then s
      else ({ s with sys := { s.sys with refclkNoted := true } } : State).journal 0x0053 srcDevice 0#128

/-- One driving excitation channel reports a fault when VEXC is low; which condition it names is not stated (R370, R407,
log entry 6). -/
def State.vexcFault (s : State) (k : Nat) : State :=
  let mode := s.conf (cExcMode k)
  if mode = 0 ∨ s.mon.power = false ∨ s.sys.dev = .fault then s
  else
    let t := s.setMon { s.mon with excOff := s.mon.excOff ||| (1#8 <<< k) }
    if s.mon.excStatus.getLsbD k then t
    else
      let t := t.setMon { t.mon with excStatus := t.mon.excStatus ||| (1#8 <<< k) }
      (t.nextFree.bump kMonExcFaults).journal 0x0A03 k (jdata [(0, mode), (1, s.freeVal.toNat % 8)])

/-- VEXC_LOW: below 4.5 V the excitation drivers go to high impedance, and each driving channel reports a fault (R407). -/
def execVexcLow (dt : Nat) (s : State) : Host.Outcome State Fault Refusal :=
  .next ((List.range 8).foldl State.vexcFault (s.elapse dt))

/-- VLED_IN_LOW: below 9.5 V the boost switch stops, and it restarts above 10.0 V (R407). -/
def execVledInLow (dt : Nat) (mv : Nat) (s : State) : Host.Outcome State Fault Refusal :=
  let s := s.elapse dt
  .next { s with sys := { s.sys with vled := if mv < 9500 then false else if 10000 < mv then true else s.sys.vled } }

/-! ### HBM controllers (R31, R155) -/

/-- HBM_CONTROLLER_FAILURE: one failure degrades the history at the next slice boundary; both lead to FAULT, from BOOT too (R28,
R31, R155). -/
def execHbmControllerFailure (dt : Nat) (stack : Fin 2) (s : State) : Host.Outcome State Fault Refusal :=
  let s := s.elapse dt
  let failed := s.sys.hbmFailed ||| (1#2 <<< stack.val)
  .next <|
    if s.sys.dev = .powered ∨ s.sys.dev = .fault then s
    else
      let due := if failed = 3#2 ∨ s.sys.hbmFailed = failed then s.sys.degradeDue else some (sliceAdd s.slice 1)
      let s : State := { s with sys := { s.sys with hbmFailed := failed, degradeDue := due } }
      if failed = 3#2 then s.nextFree.toFault (some 3) (s.freeVal.setWidth 32).toNat else s

end Sys2Proof.Machine
end

