-- ==== Sys2Proof/Machine/Jtag.lean ====
section
/-! DEFINITION. The TAP (R421, R422). What IEEE 1149.1, 1149.6 and 1500 say of the scan chains themselves is outside the
manual (log entry 26). -/

namespace Sys2Proof.Machine

/-- An instruction is loaded. After one that held the device in reset, BOOT begins with cause 3 (R422). -/
def State.loadIr (s : State) (ir : BitVec 8) : State :=
  let held := s.sys.jtagHeld
  let s : State := { s with sys := { s.sys with ir := ir, jtagHeld := false } }
  if held && decide (s.sys.dev ≠ .powered) then s.deviceReset s.sys.strapPins 3 else s

/-- An instruction that takes the balls from the function: the device holds itself in device reset (R422). -/
def State.takeBalls (s : State) (ir : BitVec 8) : State :=
  let s : State := { s with sys := { s.sys with ir := ir } }
  if s.sys.dev = .powered ∨ s.sys.jtagHeld = true then { s with sys := { s.sys with jtagHeld := true } }
  else
    let s := s.deviceReset s.sys.strapPins 3
    { s with sys := { s.sys with jtagHeld := true } }

/-- EXTEST (R422). -/
def execExtest (dt : Nat) (s : State) : Host.Outcome State Fault Refusal := .next ((s.elapse dt).takeBalls 0x00#8)

/-- HIGHZ (R422). -/
def execHighz (dt : Nat) (s : State) : Host.Outcome State Fault Refusal := .next ((s.elapse dt).takeBalls 0x03#8)

/-- CLAMP (R422). -/
def execClamp (dt : Nat) (s : State) : Host.Outcome State Fault Refusal := .next ((s.elapse dt).takeBalls 0x04#8)

/-- EXTEST_PULSE (R422). -/
def execExtestPulse (dt : Nat) (s : State) : Host.Outcome State Fault Refusal := .next ((s.elapse dt).takeBalls 0x05#8)

/-- EXTEST_TRAIN (R422). -/
def execExtestTrain (dt : Nat) (s : State) : Host.Outcome State Fault Refusal := .next ((s.elapse dt).takeBalls 0x06#8)

/-- The identification word (R421). -/
def idcodeWord : BitVec 32 := BitVec.ofNat 32 (0x2 * 2 ^ 28 + 0xC192 * 2 ^ 12 + Config.jep106.toNat * 2 + 1)

/-- The 32 bits that an instruction puts into the data register. -/
def State.tapCapture (s : State) (v : BitVec 32) : State := { s with sys := { s.sys with tapData := v } }

/-- IDCODE (R421, R422). -/
def execIdcode (dt : Nat) (s : State) : Host.Outcome State Fault Refusal :=
  .next (((s.elapse dt).loadIr 0x01#8).tapCapture idcodeWord)

/-- TAP_RESET: IDCODE is the instruction (R421). -/
def execTapReset (dt : Nat) (s : State) : Host.Outcome State Fault Refusal := .next ((s.elapse dt).loadIr 0x01#8)

/-- SAMPLE/PRELOAD (R422). -/
def execSamplePreload (dt : Nat) (s : State) : Host.Outcome State Fault Refusal := .next ((s.elapse dt).loadIr 0x02#8)

/-- HBM0_1500: the wrapper of stack 0 lies between TDI and TDO (R422). -/
def execHbm01500 (dt : Nat) (s : State) : Host.Outcome State Fault Refusal := .next ((s.elapse dt).loadIr (wrapperOf 0))

/-- HBM1_1500 (R422). -/
def execHbm11500 (dt : Nat) (s : State) : Host.Outcome State Fault Refusal := .next ((s.elapse dt).loadIr (wrapperOf 1))

/-- BYPASS (R422). -/
def execBypass (dt : Nat) (s : State) : Host.Outcome State Fault Refusal := .next ((s.elapse dt).loadIr 0xFF#8)

/-- The bits of the STATE instruction (R422). -/
def State.stateWord (s : State) : BitVec 32 :=
  BitVec.ofNat 32 (s.sys.dev.num + s.sys.role.num * 2 ^ 8 + s.sys.rails.toNat * 2 ^ 16 + bnat Config.railBit9 * 2 ^ 25)

/-- STATE: device state, role and rails (R422). -/
def execJtagState (dt : Nat) (s : State) : Host.Outcome State Fault Refusal :=
  let s := (s.elapse dt).loadIr 0x20#8
  .next (s.tapCapture s.stateWord)

/-- DEVICE_RESET: a device reset with cause 3 on entry to Update-IR (R422). -/
def execDeviceReset (dt : Nat) (s : State) : Host.Outcome State Fault Refusal :=
  let s := s.elapse dt
  let s : State := { s with sys := { s.sys with ir := 0x21#8, jtagHeld := false } }
  .next (if s.sys.dev = .powered then s else s.deviceReset s.sys.strapPins 3)

/-- BOOT_RELEASE: the hold of BOOT_HOLD ends (R418, R422). -/
def execBootRelease (dt : Nat) (s : State) : Host.Outcome State Fault Refusal :=
  let s := (s.elapse dt).loadIr 0x22#8
  .next { s with sys := { s.sys with bootHold := false } }

end Sys2Proof.Machine
end

