-- ==== Sys2Proof/Machine/PulseRows.lean ====
section
/-! DEFINITION. The pulses themselves: PULSE_FIRE and PULSE_END (R65 to R68, R374, R397). -/

namespace Sys2Proof.Machine

/-- The polarity that pin `n` stands by: of the pulse that drives it, else of the last accepted Arm (R63). -/
def State.pinPolarity (s : State) (n : Nat) : Bool :=
  match (s.gen n).ends.find? (fun e => e.pin) with
  | some e => e.activeLow
  | none => (s.gen n).activeLow

/-- The level of pin PLSn (R65, R66, R68): low until the configuration is restored in BOOT, inactive in FAULT, otherwise
active while a pulse that drives it is under way. -/
def State.pinLevel (s : State) (n : Nat) : Bool :=
  match s.sys.dev with
  | .powered | .boot => false
  | .fault => s.pinPolarity n
  | .standstill | .run | .fenced => s.pinPolarity n ^^ (s.gen n).ends.any (fun e => e.pin)

/-- The schedule of `l` whose next pulse is the earliest that fires; of equal times the first. -/
def earliest (l : List Schedule) : Option (Nat × Tw) :=
  ((List.range l.length).filterMap (fun i => (l[i]?.bind Schedule.nextTime).map (fun t => (i, t)))).foldl (fun m p =>
    match m with
    | none => some p
    | some q => if before p.2 q.2 then some p else some q) none

/-- The schedule with its next pulse fired. -/
def Schedule.fired (c : Schedule) : Schedule := { c with next := c.next + 1 }

/-- The State of R65 after a pulse of the accepted schedule; LATE and TOO_FAR stand until the next Arm (R64). -/
def PulseGen.stateAfter (g : PulseGen) (c : Schedule) : PulseState :=
  match g.state with
  | .late => .late
  | .tooFar => .tooFar
  | .idle => .idle
  | .armed | .running | .done => if pulseExists c.fields c.next then .running else .done

/-- The generator with pulse `i` of its schedules, in the order of `schedules`, fired (R65, R66). -/
def PulseGen.fire (g : PulseGen) (i : Nat) : PulseGen :=
  if i < g.old.length then
    { g with old := (g.old.modify i Schedule.fired).filter (fun c => c.nextTime.isSome) }
  else
    match g.current with
    | some c => { g with current := some c.fired, state := g.stateAfter c.fired }
    | none => g

/-- The routes of a pulse of generator `n` at `t` (R65, R67, R68, R374, R397). -/
def State.routePulse (s : State) (n : Nat) (f : PulseFields) (t : Tw) : State :=
  let pin := f.routes.getLsbD 0
  let g := s.gen n
  let raised := g.ends.any (fun e => e.pin)
  let s := s.setGen n { g with ends := g.ends ++
    [⟨t + BitVec.ofNat 64 f.width.toNat, pin, f.activeLow, f.routes.getLsbD 3⟩] }
  let s := if pin && !raised && decide (s.sys.dev ≠ .fault) then s.emit (.pulseEdge n (!f.activeLow) (pinTime t)) else s
  let s := if f.routes.getLsbD 1 && (decide (s.sys.dev = .run) || decide (s.sys.dev = .fenced)) then
      s.raise .scheduled n f.cls.toNat t else s
  let s := if f.routes.getLsbD 2 then s.requestInjected (s.edgeAfter t) else s
  if f.routes.getLsbD 3 then s.flashStart n t else s

/-- PULSE_FIRE: the earliest pulse of generator `n` that is due fires (R65). -/
def execPulseFire (dt : Nat) (n : GenId) (s : State) : Host.Outcome State Fault Refusal :=
  let s := s.elapse dt
  let g := s.gen n.val
  .next <|
    match earliest g.schedules with
    | none => s
    | some (i, t) =>
      match g.schedules[i]? with
      | none => s
      | some c =>
        if !s.due t then s
        else
          let s := (s.setGen n.val (g.fire i)).bump (kPlsFired n.val)
          (s.routePulse n.val c.fields t).lampSchedule n.val g.nextPulse

/-- One pulse end `e` of generator `n`, the others under way being `rest`: the pin falls and the flash ends when no other
pulse holds them (R66, R397). -/
def State.endPulse (s : State) (n : Nat) (e : PulseEnd) (rest : List PulseEnd) : State :=
  let s := s.setGen n { s.gen n with ends := rest }
  let s := if e.pin && !rest.any (fun x => x.pin) && decide (s.sys.dev ≠ .fault) then
      s.emit (.pulseEdge n e.activeLow (pinTime e.at_)) else s
  if e.flash && !rest.any (fun x => x.flash) then s.flashEnd n e.at_ else s

/-- The pulse end of `l` that comes first, and the others in their order. -/
def firstEnd : List PulseEnd → Option (PulseEnd × List PulseEnd)
  | [] => none
  | e :: l =>
    match firstEnd l with
    | none => some (e, [])
    | some (f, r) => if before f.at_ e.at_ then some (f, e :: r) else some (e, l)

/-- PULSE_END: the earliest pulse end of generator `n` that is due (R65). -/
def execPulseEnd (dt : Nat) (n : GenId) (s : State) : Host.Outcome State Fault Refusal :=
  let s := s.elapse dt
  .next <|
    match firstEnd (s.gen n.val).ends with
    | none => s
    | some (e, rest) => if s.due e.at_ then s.endPulse n.val e rest else s

end Sys2Proof.Machine
end

