-- ==== Sys2Proof/Machine/Dispatch.lean ====
section
/-! DEFINITION. The dispatcher: one arm for each command, a direct call of its meaning. -/

namespace Sys2Proof.Machine

/-- The effect of a command on everything but the queue. -/
def exec (i : Instr) (s : State) : Host.Outcome State Fault Refusal :=
  match i with
  | .supplyOutOfRange dt rail => Sys2Proof.Machine.execSupplyOutOfRange dt rail s
  | .powerOnResetRelease dt straps => Sys2Proof.Machine.execPowerOnResetRelease dt straps s
  | .resetN dt straps => Sys2Proof.Machine.execResetN dt straps s
  | .watchdog dt straps => Sys2Proof.Machine.execWatchdog dt straps s
  | .bootComplete dt imageA imageB hbm0 hbm1 => Sys2Proof.Machine.execBootComplete dt imageA imageB hbm0 hbm1 s
  | .fault dt cause detail => Sys2Proof.Machine.execFault dt cause detail s
  | .thermalWarning dt temp sensor => Sys2Proof.Machine.execThermalWarning dt temp sensor s
  | .thermalClear dt temp sensor => Sys2Proof.Machine.execThermalClear dt temp sensor s
  | .thermalShutdown dt temp => Sys2Proof.Machine.execThermalShutdown dt temp s
  | .hbmTempRead dt die t0 t1 => Sys2Proof.Machine.execHbmTempRead dt die t0 t1 s
  | .refclkLoss dt returned => Sys2Proof.Machine.execRefclkLoss dt returned s
  | .vexcLow dt => Sys2Proof.Machine.execVexcLow dt s
  | .vledInLow dt mv => Sys2Proof.Machine.execVledInLow dt mv s
  | .hbmControllerFailure dt stack => Sys2Proof.Machine.execHbmControllerFailure dt stack s
  | .hbmDegrade dt => Sys2Proof.Machine.execHbmDegrade dt s
  | .scrubCompare dt upsets corrected => Sys2Proof.Machine.execScrubCompare dt upsets corrected s
  | .scrubReload dt => Sys2Proof.Machine.execScrubReload dt s
  | .shadowRepair dt set field => Sys2Proof.Machine.execShadowRepair dt set field s
  | .requestBatch dt => Sys2Proof.Machine.execRequestBatch dt s
  | .sessionTimeout dt n => Sys2Proof.Machine.execSessionTimeout dt n s
  | .commitApply dt => Sys2Proof.Machine.execCommitApply dt s
  | .storeDone dt failure => Sys2Proof.Machine.execStoreDone dt failure s
  | .bootImageProgrammed dt ok => Sys2Proof.Machine.execBootImageProgrammed dt ok s
  | .canBusOff dt bus => Sys2Proof.Machine.execCanBusOff dt bus s
  | .reqTail dt value msgs => Sys2Proof.Machine.execReqTail dt value msgs s
  | .respHead dt value => Sys2Proof.Machine.execRespHead dt value s
  | .respArm dt value => Sys2Proof.Machine.execRespArm dt value s
  | .fold dt => Sys2Proof.Machine.execFold dt s
  | .anchorAdvance dt => Sys2Proof.Machine.execAnchorAdvance dt s
  | .sync dt e cap frame => Sys2Proof.Machine.execSync dt e cap frame s
  | .followUp dt e m => Sys2Proof.Machine.execFollowUp dt e m s
  | .delayReq dt e seq sub => Sys2Proof.Machine.execDelayReq dt e seq sub s
  | .delayResp dt e m => Sys2Proof.Machine.execDelayResp dt e m s
  | .pdelayReq dt e cap txCap frame => Sys2Proof.Machine.execPdelayReq dt e cap txCap frame s
  | .pdelayReqSend dt e seq sub => Sys2Proof.Machine.execPdelayReqSend dt e seq sub s
  | .pdelayResp dt e cap frame => Sys2Proof.Machine.execPdelayResp dt e cap frame s
  | .announce dt e m => Sys2Proof.Machine.execAnnounce dt e m s
  | .exchangeTimeout dt e => Sys2Proof.Machine.execExchangeTimeout dt e s
  | .announceTimeout dt e => Sys2Proof.Machine.execAnnounceTimeout dt e s
  | .ethLinkChange dt e up => Sys2Proof.Machine.execEthLinkChange dt e up s
  | .arpRequest dt e frame => Sys2Proof.Machine.execArpRequest dt e frame s
  | .ethFrameDropped dt e => Sys2Proof.Machine.execEthFrameDropped dt e s
  | .esmc dt e ql => Sys2Proof.Machine.execEsmc dt e ql s
  | .esmcTimeout dt => Sys2Proof.Machine.execEsmcTimeout dt s
  | .holdClkQualification dt inRange => Sys2Proof.Machine.execHoldClkQualification dt inRange s
  | .pulseFire dt n => Sys2Proof.Machine.execPulseFire dt n s
  | .pulseEnd dt n => Sys2Proof.Machine.execPulseEnd dt n s
  | .detectEnergy dt l => Sys2Proof.Machine.execDetectEnergy dt l s
  | .cdrLock dt l ppm => Sys2Proof.Machine.execCdrLock dt l ppm s
  | .bringupTimeout dt l => Sys2Proof.Machine.execBringupTimeout dt l s
  | .signalLoss dt l sub => Sys2Proof.Machine.execSignalLoss dt l sub s
  | .uplinkTrain dt l sub f => Sys2Proof.Machine.execUplinkTrain dt l sub f s
  | .uplinkCap dt l sub f => Sys2Proof.Machine.execUplinkCap dt l sub f s
  | .uplinkFill dt l sub f => Sys2Proof.Machine.execUplinkFill dt l sub f s
  | .uplinkData dt p sub f echoes => Sys2Proof.Machine.execUplinkData dt p sub f echoes s
  | .reservedKindFrame dt l sub wire => Sys2Proof.Machine.execReservedKindFrame dt l sub wire s
  | .idleExitTimeout dt p => Sys2Proof.Machine.execIdleExitTimeout dt p s
  | .quarantineHoldExpiry dt p => Sys2Proof.Machine.execQuarantineHoldExpiry dt p s
  | .downlinkFrame dt p sub => Sys2Proof.Machine.execDownlinkFrame dt p sub s
  | .deepPowerDown dt lg => Sys2Proof.Machine.execDeepPowerDown dt lg s
  | .laneGroupPllLock dt lg => Sys2Proof.Machine.execLaneGroupPllLock dt lg s
  | .sliceSeal dt => Sys2Proof.Machine.execSliceSeal dt s
  | .sliceClose dt corrected badWords => Sys2Proof.Machine.execSliceClose dt corrected badWords s
  | .sliceIndexed dt => Sys2Proof.Machine.execSliceIndexed dt s
  | .stragglerCountFinal dt => Sys2Proof.Machine.execStragglerCountFinal dt s
  | .lossLogWrite dt => Sys2Proof.Machine.execLossLogWrite dt s
  | .alertDatagram dt e cap frame => Sys2Proof.Machine.execAlertDatagram dt e cap frame s
  | .queueEnable dt q control => Sys2Proof.Machine.execQueueEnable dt q control s
  | .queueDisable dt q control => Sys2Proof.Machine.execQueueDisable dt q control s
  | .descTail dt q value => Sys2Proof.Machine.execDescTail dt q value s
  | .complHead dt q value => Sys2Proof.Machine.execComplHead dt q value s
  | .complArm dt q value => Sys2Proof.Machine.execComplArm dt q value s
  | .descriptorReadDone dt q d => Sys2Proof.Machine.execDescriptorReadDone dt q d s
  | .transferStart dt q upsetBlocks upsetEntries => Sys2Proof.Machine.execTransferStart dt q upsetBlocks upsetEntries s
  | .transferComplete dt q => Sys2Proof.Machine.execTransferComplete dt q s
  | .waitLimitExpiry dt q => Sys2Proof.Machine.execWaitLimitExpiry dt q s
  | .moderationTimeout dt q => Sys2Proof.Machine.execModerationTimeout dt q s
  | .pcieLinkUp dt gen width busMaster d0 relaxed mps => Sys2Proof.Machine.execPcieLinkUp dt gen width busMaster d0 relaxed mps s
  | .pcieLinkDown dt => Sys2Proof.Machine.execPcieLinkDown dt s
  | .functionLevelReset dt => Sys2Proof.Machine.execFunctionLevelReset dt s
  | .hotReset dt => Sys2Proof.Machine.execHotReset dt s
  | .perstN dt => Sys2Proof.Machine.execPerstN dt s
  | .busMasterDisable dt => Sys2Proof.Machine.execBusMasterDisable dt s
  | .d3hotEntry dt => Sys2Proof.Machine.execD3hotEntry dt s
  | .fpLoadDone dt g => Sys2Proof.Machine.execFpLoadDone dt g s
  | .fpUpset dt g space addr double => Sys2Proof.Machine.execFpUpset dt g space addr double s
  | .fpReload dt g => Sys2Proof.Machine.execFpReload dt g s
  | .packetStart dt g => Sys2Proof.Machine.execPacketStart dt g s
  | .budgetExhausted dt g => Sys2Proof.Machine.execBudgetExhausted dt g s
  | .pcRange dt g => Sys2Proof.Machine.execPcRange dt g s
  | .uncorrectable dt g space addr => Sys2Proof.Machine.execUncorrectable dt g space addr s
  | .illegal dt g => Sys2Proof.Machine.execIllegal dt g s
  | .mv g f => Sys2Proof.Machine.execMv g f s
  | .fmul g f => Sys2Proof.Machine.execFmul g f s
  | .fmulr g f => Sys2Proof.Machine.execFmulr g f s
  | .fmac g f => Sys2Proof.Machine.execFmac g f s
  | .fmacr g f => Sys2Proof.Machine.execFmacr g f s
  | .fmsb g f => Sys2Proof.Machine.execFmsb g f s
  | .fmsbr g f => Sys2Proof.Machine.execFmsbr g f s
  | .zero g f => Sys2Proof.Machine.execZero g f s
  | .lda g f => Sys2Proof.Machine.execLda g f s
  | .addw g f => Sys2Proof.Machine.execAddw g f s
  | .subw g f => Sys2Proof.Machine.execSubw g f s
  | .cmpw g f => Sys2Proof.Machine.execCmpw g f s
  | .absa g f => Sys2Proof.Machine.execAbsa g f s
  | .nega g f => Sys2Proof.Machine.execNega g f s
  | .rnda g f => Sys2Proof.Machine.execRnda g f s
  | .shl1 g f => Sys2Proof.Machine.execShl1 g f s
  | .shr1 g f => Sys2Proof.Machine.execShr1 g f s
  | .cpya g f => Sys2Proof.Machine.execCpya g f s
  | .suma g f => Sys2Proof.Machine.execSuma g f s
  | .difa g f => Sys2Proof.Machine.execDifa g f s
  | .andw g f => Sys2Proof.Machine.execAndw g f s
  | .orw g f => Sys2Proof.Machine.execOrw g f s
  | .xorw g f => Sys2Proof.Machine.execXorw g f s
  | .dmul g f => Sys2Proof.Machine.execDmul g f s
  | .dmac g f => Sys2Proof.Machine.execDmac g f s
  | .dmsb g f => Sys2Proof.Machine.execDmsb g f s
  | .dmacr g f => Sys2Proof.Machine.execDmacr g f s
  | .smac g f => Sys2Proof.Machine.execSmac g f s
  | .nop g => Sys2Proof.Machine.execNop g s
  | .ldi g d imm => Sys2Proof.Machine.execLdi g d imm s
  | .addi g d imm => Sys2Proof.Machine.execAddi g d imm s
  | .andi g d imm => Sys2Proof.Machine.execAndi g d imm s
  | .ori g d imm => Sys2Proof.Machine.execOri g d imm s
  | .addd g d e f => Sys2Proof.Machine.execAddd g d e f s
  | .subd g d e f => Sys2Proof.Machine.execSubd g d e f s
  | .srai g d n => Sys2Proof.Machine.execSrai g d n s
  | .slli g d n => Sys2Proof.Machine.execSlli g d n s
  | .ldp g n imm => Sys2Proof.Machine.execLdp g n imm s
  | .ldn g n imm => Sys2Proof.Machine.execLdn g n imm s
  | .lea g d src imm => Sys2Proof.Machine.execLea g d src imm s
  | .rdr g d src => Sys2Proof.Machine.execRdr g d src s
  | .wrr g d src => Sys2Proof.Machine.execWrr g d src s
  | .geta g d a x => Sys2Proof.Machine.execGeta g d a x s
  | .ldx g d ea => Sys2Proof.Machine.execLdx g d ea s
  | .stx g d ea => Sys2Proof.Machine.execStx g d ea s
  | .ldy g d ea => Sys2Proof.Machine.execLdy g d ea s
  | .sty g d ea => Sys2Proof.Machine.execSty g d ea s
  | .maxs g a ea k => Sys2Proof.Machine.execMaxs g a ea k s
  | .cmpm g a ea => Sys2Proof.Machine.execCmpm g a ea s
  | .ftap g a pi pj => Sys2Proof.Machine.execFtap g a pi pj s
  | .divs g a d => Sys2Proof.Machine.execDivs g a d s
  | .imul g a src t => Sys2Proof.Machine.execImul g a src t s
  | .imac g a src t => Sys2Proof.Machine.execImac g a src t s
  | .sraa g a n => Sys2Proof.Machine.execSraa g a n s
  | .slla g a n => Sys2Proof.Machine.execSlla g a n s
  | .loop g c n => Sys2Proof.Machine.execLoop g c n s
  | .loopr g d n => Sys2Proof.Machine.execLoopr g d n s
  | .jump g addr => Sys2Proof.Machine.execJump g addr s
  | .jcc g cc addr => Sys2Proof.Machine.execJcc g cc addr s
  | .exitcc g cc => Sys2Proof.Machine.execExitcc g cc s
  | .emit g d e => Sys2Proof.Machine.execEmit g d e s
  | .prim g d k => Sys2Proof.Machine.execPrim g d k s
  | .done g => Sys2Proof.Machine.execDone g s
  | .satu g d a => Sys2Proof.Machine.execSatu g d a s
  | .tinEdge dt n falling cycle k => Sys2Proof.Machine.execTinEdge dt n falling cycle k s
  | .tinEdgeHandled dt n => Sys2Proof.Machine.execTinEdgeHandled dt n s
  | .gateTimeout dt n => Sys2Proof.Machine.execGateTimeout dt n s
  | .frequencyGate dt n => Sys2Proof.Machine.execFrequencyGate dt n s
  | .interpLockChange dt n b locked => Sys2Proof.Machine.execInterpLockChange dt n b locked s
  | .monitorStart dt => Sys2Proof.Machine.execMonitorStart dt s
  | .settleEnd dt => Sys2Proof.Machine.execSettleEnd dt s
  | .conversionResult dt raw => Sys2Proof.Machine.execConversionResult dt raw s
  | .breakCheckDone dt raw => Sys2Proof.Machine.execBreakCheckDone dt raw s
  | .injectedSequenceBegin dt => Sys2Proof.Machine.execInjectedSequenceBegin dt s
  | .excFault dt k condition => Sys2Proof.Machine.execExcFault dt k condition s
  | .excFaultClear dt k => Sys2Proof.Machine.execExcFaultClear dt k s
  | .excDriverOff dt k retry => Sys2Proof.Machine.execExcDriverOff dt k retry s
  | .trimCompare dt mismatch fuseOk => Sys2Proof.Machine.execTrimCompare dt mismatch fuseOk s
  | .trimReloadDone dt => Sys2Proof.Machine.execTrimReloadDone dt s
  | .dimSlot dt volts => Sys2Proof.Machine.execDimSlot dt volts s
  | .boostUpdate dt => Sys2Proof.Machine.execBoostUpdate dt s
  | .boostOvp dt mv => Sys2Proof.Machine.execBoostOvp dt mv s
  | .sinkFault dt src cause mv => Sys2Proof.Machine.execSinkFault dt src cause mv s
  | .lowHeadroom dt src low => Sys2Proof.Machine.execLowHeadroom dt src low s
  | .lampResponse dt response => Sys2Proof.Machine.execLampResponse dt response s
  | .lampFlashFrame dt => Sys2Proof.Machine.execLampFlashFrame dt s
  | .grant dt frame helm => Sys2Proof.Machine.execGrant dt frame helm s
  | .helmInHigh dt => Sys2Proof.Machine.execHelmInHigh dt s
  | .grantHelmTimeout dt => Sys2Proof.Machine.execGrantHelmTimeout dt s
  | .assignMizzen dt frame => Sys2Proof.Machine.execAssignMizzen dt frame s
  | .assignFenced dt frame => Sys2Proof.Machine.execAssignFenced dt frame s
  | .status dt => Sys2Proof.Machine.execStatus dt s
  | .leaseExpired dt => Sys2Proof.Machine.execLeaseExpired dt s
  | .helmLow dt => Sys2Proof.Machine.execHelmLow dt s
  | .takeover dt => Sys2Proof.Machine.execTakeover dt s
  | .slice dt => Sys2Proof.Machine.execSlice dt s
  | .digest dt => Sys2Proof.Machine.execDigest dt s
  | .delay dt => Sys2Proof.Machine.execDelay dt s
  | .start dt => Sys2Proof.Machine.execStart dt s
  | .commitMessage dt => Sys2Proof.Machine.execCommitMessage dt s
  | .armMessage dt => Sys2Proof.Machine.execArmMessage dt s
  | .image dt => Sys2Proof.Machine.execImage dt s
  | .snapshot dt => Sys2Proof.Machine.execSnapshot dt s
  | .snapshotTake dt => Sys2Proof.Machine.execSnapshotTake dt s
  | .takeoverMessage dt => Sys2Proof.Machine.execTakeoverMessage dt s
  | .hello dt => Sys2Proof.Machine.execHello dt s
  | .helloSend dt => Sys2Proof.Machine.execHelloSend dt s
  | .joinMessage dt => Sys2Proof.Machine.execJoinMessage dt s
  | .ack dt => Sys2Proof.Machine.execAck dt s
  | .stayRetransmit dt => Sys2Proof.Machine.execStayRetransmit dt s
  | .partnerLost dt => Sys2Proof.Machine.execPartnerLost dt s
  | .mizzenWaitExpiry dt => Sys2Proof.Machine.execMizzenWaitExpiry dt s
  | .daWaitExpiry dt p => Sys2Proof.Machine.execDaWaitExpiry dt p s
  | .joinSlice dt => Sys2Proof.Machine.execJoinSlice dt s
  | .drillOverdue dt => Sys2Proof.Machine.execDrillOverdue dt s
  | .extest dt => Sys2Proof.Machine.execExtest dt s
  | .idcode dt => Sys2Proof.Machine.execIdcode dt s
  | .samplePreload dt => Sys2Proof.Machine.execSamplePreload dt s
  | .highz dt => Sys2Proof.Machine.execHighz dt s
  | .clamp dt => Sys2Proof.Machine.execClamp dt s
  | .extestPulse dt => Sys2Proof.Machine.execExtestPulse dt s
  | .extestTrain dt => Sys2Proof.Machine.execExtestTrain dt s
  | .hbm01500 dt => Sys2Proof.Machine.execHbm01500 dt s
  | .hbm11500 dt => Sys2Proof.Machine.execHbm11500 dt s
  | .jtagState dt => Sys2Proof.Machine.execJtagState dt s
  | .deviceReset dt => Sys2Proof.Machine.execDeviceReset dt s
  | .bootRelease dt => Sys2Proof.Machine.execBootRelease dt s
  | .bypass dt => Sys2Proof.Machine.execBypass dt s
  | .supplyInRange dt rail => Sys2Proof.Machine.execSupplyInRange dt rail s
  | .synceFrequencyOutOfRange dt => Sys2Proof.Machine.execSynceFrequencyOutOfRange dt s
  | .phaseInterpolatorRead dt p code => Sys2Proof.Machine.execPhaseInterpolatorRead dt p code s
  | .lcpCanFrame dt bus f => Sys2Proof.Machine.execLcpCanFrame dt bus f s
  | .bar0ShadowWrite dt offset size value => Sys2Proof.Machine.execBar0ShadowWrite dt offset size value s
  | .queueTableWrite dt q offset size value => Sys2Proof.Machine.execQueueTableWrite dt q offset size value s
  | .badAccess dt bar write offset size => Sys2Proof.Machine.execBadAccess dt bar write offset size s
  | .stayLinkFrame dt lane wire => Sys2Proof.Machine.execStayLinkFrame dt lane wire s
  | .tmrCorrection dt => Sys2Proof.Machine.execTmrCorrection dt s
  | .perstNRelease dt => Sys2Proof.Machine.execPerstNRelease dt s
  | .lampFlashFrameEnd dt => Sys2Proof.Machine.execLampFlashFrameEnd dt s
  | .tapReset dt => Sys2Proof.Machine.execTapReset dt s

end Sys2Proof.Machine
end

