-- ==== Sys2Proof/Machine/HostViews.lean ====
section
/-! DEFINITION. What the host and the crow's nest see of the state, as functions of it: BAR0 with its pages and tables (R240 to
R242, R251, R265), the mailbox and the status mirror of BAR2 (R263, R271), the history window of BAR4 (R139, R142, R155, R264),
the power domains (R409) and the signals of the crow's nest (R423, R424). A read changes nothing but BadAccess, which BAD_ACCESS
counts, so these are views and no commands. -/

namespace Sys2Proof.Machine

/-- A read of BAR0 or BAR2 returns 0 where the device is off or in BOOT (R259, R420). -/
def State.whenOpen (s : State) (v : Nat) : Nat := if s.barOpen then v else 0

/-! ### BAR0 (R241, R242, R265) -/

/-- The global page (R241): the 8-byte field at an offset. -/
def State.globalPage (s : State) (offset : Nat) : Nat :=
  s.whenOpen <|
    match offset with
    | 0x00 => 0x4B4300C0
    | 0x08 => Config.serial.toNat
    | 0x10 => 1
    | 0x18 => bnat s.delivers
    | 0x20 => s.trig.recordSeq.toNat
    | 0x28 => s.hist.newest
    | 0x30 => s.now.toNat
    | _ => 0

/-- The number of a queue's state (R242). -/
def QueueState.num : QueueState → Nat
  | .disabled => 0 | .active => 1 | .draining => 2 | .error => 3

/-- The 64 bytes of a queue-table entry (R242). -/
def Queue.bytes (q : Queue) : List Byte :=
  q.entry ++ leBytes 1 (bnat q.enable + 2 * bnat q.intr) ++ leBytes 3 0 ++ leBytes 1 q.state.num ++ leBytes 1 q.error ++
    leBytes 2 q.descHead ++ leBytes 2 q.descTail ++ leBytes 2 q.complTail ++ leBytes 2 q.complHead ++ leBytes 2 0 ++
    leBytes 4 q.complSeq.toNat ++ leBytes 8 q.delivered.toNat ++ leBytes 4 q.fullCount.toNat ++
    leBytes 4 q.line.length

/-- The 64 bytes of entry `x` of the context table (R265); a free entry holds the values of an earlier use behind its State byte
(R43, R262), and zeros where it was never used (log entry 4). -/
def State.contextEntry (s : State) (x : Nat) : List Byte :=
  match s.context x with
  | some c => 1#8 :: s.contextBytes c
  | none => 0#8 :: Tab.get (List.replicate 63 0#8) s.trig.freed x

/-- The 64 bytes of the active entry of a group (R251): its fields in force, and DealCounter. -/
def State.activeGroup (s : State) (g : Nat) : List Byte :=
  groupFields.flatMap (fun f => leBytes f.2.1 (Tab.get 0 s.cfg.active (groupKey g f.1))) ++ leBytes 8 (Tab.get 0 s.host.deal g) ++
    List.replicate 40 0#8

/-- The pending bits of the MSI-X table (R240): bit v for vector v. -/
def State.pendingBits (s : State) : List Byte :=
  (List.range 256).map (fun j => BitVec.ofNat 8 ((List.range 8).map (fun i =>
    bnat (s.host.msixPending.contains (8 * j + i)) * 2 ^ i)).sum)

/-- The byte of BAR0 at an offset (R240); the doorbell pages can only be written. -/
def State.bar0Byte (s : State) (a : Nat) : Byte :=
  let at_ := fun (l : List Byte) (i : Nat) => l.getD i 0#8
  if a < 0x1000 then at_ (leBytes 8 (s.globalPage (a / 8 * 8))) (a % 8)
  else if a < 0x10000 then 0#8
  else if a < 0x14000 then at_ (s.groupEntry ((a - 0x10000) / 64)) (a % 64)
  else if a < 0x18000 then at_ (s.activeGroup ((a - 0x14000) / 64)) (a % 64)
  else if a < 0x100000 then 0#8
  else if a < 0x200000 then at_ (s.queue ((a - 0x100000) / 64)).bytes (a % 64)
  else if a < 0x300000 then 0#8
  else if a < 0x308000 then at_ (leBytes 16 (Tab.get msixReset s.host.msix ((a - 0x300000) / 16)).toNat) (a % 16)
  else if a < 0x308100 then at_ s.pendingBits (a - 0x308000)
  else if a < 0x400000 then 0#8
  else if a < 0x700000 then at_ (leBytes 4 (Tab.get 0 s.cfg.staging (0x1000000 + (a - 0x400000) / 4))) (a % 4)
  else if a < 0x800000 then 0#8
  else if a < 0xB00000 then at_ (leBytes 4 (Tab.get 0 s.cfg.active (0x1000000 + (a - 0x800000) / 4))) (a % 4)
  else if 0xC00000 ≤ a ∧ a < 0xC30000 then at_ (s.contextEntry ((a - 0xC00000) / 64)) (a % 64)
  else 0#8

/-- A read of `size` bytes of BAR0 (R239, R240): 0 for an access that R239 does not permit. -/
def State.bar0Read (s : State) (offset size : Nat) : Nat :=
  if isBadAccess 0 false offset size then 0
  else s.whenOpen (leNat ((List.range size).map (fun i => s.bar0Byte (offset + i))))

/-! ### BAR2 (R263, R271) -/

/-- The status mirror (R263): the 8-byte value at an offset from 0x4_0000 on; absent objects and subindices read 0. -/
def State.mirror (s : State) (offset : Nat) : Nat :=
  let i := 0x5000 + (offset - 0x40000) / 256
  let sub := (offset - 0x40000) % 256 / 8
  s.whenOpen <|
    match objAt i sub with
    | some r => s.readValue r i sub
    | none => 0

/-- The byte of BAR2 at an offset (R263, R271): the request ring can only be written; the response ring, the indices with the
ARM bit, the mirror. -/
def State.bar2Byte (s : State) (a : Nat) : Byte :=
  let word := fun (v : Nat) => (leBytes 8 v).getD (a % 8) 0#8
  if a < 0x10000 then 0#8
  else if a < 0x30000 then (Tab.get [] s.ctl.slots (16 + (a - 0x10000) / 4096)).getD (a % 4096) 0#8
  else if a < 0x30008 then word s.ctl.reqTail
  else if a < 0x30010 then word s.ctl.reqHead
  else if a < 0x30018 then word (s.ctl.respHead + bnat s.ctl.armed * 2 ^ 31)
  else if a < 0x30020 then word s.ctl.respTail
  else if a < 0x40000 then 0#8
  else word (s.mirror (a / 8 * 8))

/-- A read of `size` bytes of BAR2 (R239, R263): 0 for an access that R239 does not permit. -/
def State.bar2Read (s : State) (offset size : Nat) : Nat :=
  if isBadAccess 2 false offset size then 0
  else s.whenOpen (leNat ((List.range size).map (fun i => s.bar2Byte (offset + i))))

/-! ### BAR4 (R139, R142, R264) -/

/-- Where a 256-byte unit of the linear space lies (R142): pseudo-channel, bank group, bank, column and row. -/
structure HbmPlace where
  pc : Nat
  group : Nat
  bank : Nat
  col : Nat
  row : Nat
  deriving DecidableEq, Repr

/-- The mapping of R142. -/
def hbmPlace (u : Nat) : HbmPlace :=
  let q := u / 64
  let slot := (field q 3 0) ^^^ (field q 19 16)
  { pc := (field u 5 0) ^^^ (field u 11 6) ^^^ (field u 17 12) ^^^ (field u 23 18) ^^^ (field u 27 24)
    group := slot % 4, bank := slot / 4, col := field q 5 4, row := field q 21 6 }

/-- The bytes of the index ring at a position (R43, R144, R145): the entry in force, or the one of an earlier run; nothing written
reads as zeros (log entry 5). An entry that has failed its CRC shows the complement of the right one (log entry 44). -/
def State.indexBytes (s : State) (i : Nat) : List Byte :=
  match (Tab.look s.hist.index i).orElse (fun _ => Tab.look s.hist.indexOld i) with
  | some e =>
    let b := e.bytes s.logWords
    if s.hist.badIndex.contains i then b.take 28 ++ (b.drop 28).map (fun x => ~~~ x) else b
  | none => List.replicate 32 0#8

/-- The CRC word of a log block (R139, R141): over its bytes and the 8 bytes of the number of the slice that owns its first word;
of a poisoned block it is the complement of the right one (R138). A block never written has none (log entry 5). -/
def State.blockCrc (s : State) (b : Nat) : BitVec 32 :=
  match Tab.look s.hist.owners b with
  | none => 0#32
  | some n =>
    let c := crc32c ((List.range 32).flatMap (fun i => wordBytes (Tab.get 0#64 s.hist.log (32 * b + i))) ++ leBytes 8 n)
    if s.hist.poisoned.contains b then ~~~ c else c

/-- The byte at an offset of the linear space of both stacks, or of one with all offsets halved (R139, R155); the record headers,
whose entries R178 does not lay out, and the reserved region are not given. -/
def State.historyByte (s : State) (a : Nat) : Option Byte :=
  let at_ := fun (l : List Byte) (i : Nat) => l.getD i 0#8
  let k := if s.count kHbmDegraded = 1 then 2 else 1
  let start := fun (n : Nat) => n / k
  if a < start 0xB00000000 then some (at_ (wordBytes (Tab.get 0#64 s.hist.log (a / 8))) (a % 8))
  else if a < start 0xB2C000000 then some (at_ (leBytes 4 (s.blockCrc ((a - start 0xB00000000) / 4)).toNat) (a % 4))
  else if a < start 0xB30000000 then
    let b := (a - start 0xB2C000000) * 8
    some (BitVec.ofNat 8 (((List.range 8).map (fun i => bnat (s.hist.counted.contains (b + i)) * 2 ^ i)).sum))
  else if a < start 0xB70000000 then some (at_ (s.indexBytes ((a - start 0xB30000000) / 32)) (a % 32))
  else if a < start 0xB78000000 then
    some (at_ (leBytes 16 (Tab.get 0#128 s.hist.stragLog ((a - start 0xB70000000) / 16)).toNat) (a % 16))
  else if a < start 0xB80000000 then
    some (at_ (leBytes 16 (Tab.get 0#128 s.hist.lossLog ((a - start 0xB78000000) / 16)).toNat) (a % 16))
  else none

/-- A read of one byte of BAR4 at an offset of its window (R264): 0 while Bar4Enable is 0, in BOOT and FAULT, and where the window
lies beyond the single-stack space (R306). -/
def State.bar4Byte (s : State) (offset : Nat) : Option Byte :=
  if !s.barOpen || decide (s.sys.dev = .fault) || decide (s.imm cBar4Enable = 0) || s.bar4Beyond then some 0#8
  else s.historyByte (s.imm cBar4Base * 268435456 + offset)

/-! ### Power domains (R409) -/

/-- Domain PDk is powered (R93, R188, R348, R377, R390, R409). -/
def State.domainOn (s : State) (k : Nat) : Bool :=
  let booted := decide (s.sys.dev ≠ .powered)
  if k < 24 then booted && decide ((s.group k).phase ≠ 2)
  else if k < 36 then bit s.pairPower (k - 24)
  else if k < 38 then booted && decide (s.sys.dev ≠ .fault)
  else
    match k with
    | 38 | 39 | 40 | 41 | 46 => booted
    | 42 | 48 => true
    | 43 => s.timerPower
    | 44 => s.mon.power
    | 45 => s.lightPower
    | 47 => s.paired
    | 49 => decide (s.imm cCnEnable = 1)
    | _ => false

/-! ### The crow's nest (R423) -/

/-- A level signal of the crow's nest by group and index (R423): of the clocks, and of events that are shown as pulses,
none. -/
def State.crowSignal (s : State) (group index : Nat) : Option Bool :=
  match group with
  | 0x00 => if index < 2 then some (decide (index = 1)) else none
  | 0x01 =>
    match index with
    | 3 => some (decide (s.tb.servo = .locked))
    | 4 => some (decide (s.tb.servo = .holdover))
    | _ => none
  | 0x14 => if index < 192 then some (s.port index).busy else none
  | 0x15 => if index < 192 then some (decide ((s.port index).st = .active)) else none
  | 0x20 => if index < 24 then some (s.core index).running.isSome else none
  | 0x22 => if index < 24 then
      some (decide (s.conf cReef2FpQueue * s.conf cQueueLimit ≤ 100 * (s.core index).pendingBudget)) else none
  | 0x30 =>
    match index with
    | 4 => some (decide (1 ≤ s.hist.reef))
    | 5 => some (decide (2 ≤ s.hist.reef))
    | 6 => some (decide (s.hist.reef = 3))
    | _ => none
  | 0x60 =>
    match index with
    | 0 => some (decide (s.host.gen ≠ 0))
    | 1 => some (decide (0 < s.transfers))
    | _ => none
  | 0x70 =>
    match index with
    | 0 => some s.leaseValid
    | 1 => some s.twin.helm
    | 2 => some s.twin.partnerUp
    | _ => none
  | 0x80 => if index < 16 then some (!(s.gen index).ends.isEmpty) else none
  | 0x90 =>
    match index with
    | 1 => some (decide (s.mon.phase = .converting))
    | 2 => some s.mon.injected
    | 3 => some (decide (s.mon.phase = .checking))
    | _ => none
  | 0x91 => if 1 ≤ index ∧ index ≤ 12 then
      some (s.sinkOk (index - 1) && (s.light.slotLit.getLsbD (index - 1) || s.light.flashing.contains (index - 1))) else none
  | _ => none

/-- CNk (R423): low while CnEnable is 0, and before the configuration is restored. -/
def State.crowPin (s : State) (k : Nat) : Option Bool :=
  if !s.barOpen || decide (s.imm cCnEnable = 0) then some false
  else s.crowSignal (s.imm (cCnSelect k) / 256) (s.imm (cCnSelect k) % 256)

/-- What CN_HS_P and CN_HS_N show (R424). -/
inductive HsSource where
  | off | uplink (p : PortId) | downlink (p : PortId) | stayLane (l : Fin 4) | tick | timingClock
  deriving DecidableEq, Repr

/-- The source that CnHsSelect names (R424); off while PD49 is off (R409). -/
def State.crowHs (s : State) : HsSource :=
  let v := s.imm cCnHsSelect
  let port : PortId := ⟨v % 256 % 192, Nat.mod_lt _ (by decide)⟩
  if !s.barOpen || !s.domainOn 49 then .off
  else
    match v / 256 with
    | 1 => .uplink port
    | 2 => .downlink port
    | 3 => .stayLane ⟨v % 4, Nat.mod_lt _ (by decide)⟩
    | 4 => .tick
    | 5 => .timingClock
    | _ => .off

/-- The level that CN_HS shows (R424): the bit on the line of the lane that it names; none where the outputs are at common mode
or show a clock. -/
def State.crowHsLevel (s : State) : Option Bool :=
  match s.crowHs with
  | .uplink p => some (s.port p.val).rx.last
  | .downlink p => some (s.port p.val).tx.last
  | .stayLane l => some (s.lane (.stay l)).rx.last
  | .off | .tick | .timingClock => none

end Sys2Proof.Machine
end

