-- ==== Sys2Proof/WellFormed.lean ====
section
/-! DEFINITION. Which commands are well formed: an operand that the manual bounds lies within its bound. A command that is
not well formed is one that nothing outside the device can produce. -/

namespace Sys2Proof

/-- A sub-tick offset in fu (R10, R11). -/
def subWf (sub : Nat) : Bool := decide (sub < 8192)

/-- The wire bits from the end of one frame to the end of the next one that is found: stuffing adds a bit to every 11 at
most, and realignment finds a frame within 20 ms of 10.0 Gb/s at most (R75, R77, R107). -/
def wireWf (w : List Bool) : Bool := decide (w.length ≤ 200000000)

/-- A capture names a bit of a 32-bit receive-clock cycle (R112, R73: 10.0 Gb/s over 312.5 MHz). -/
def EchoCapture.wf (e : EchoCapture) : Bool := decide (e.bit < 32)

/-- A capture lies within its tick on the grid of the capture resolution, 64 fu (R53). -/
def Capture.wf (c : Capture) : Bool := subWf c.sub && decide (c.sub % 64 = 0)

/-- An Ethernet frame from its destination address to its payload: 60 to 1,518 bytes with a tag (R52). -/
def ethWf (f : List Byte) : Bool := decide (14 ≤ f.length ∧ f.length ≤ 1518)

/-- A CAN data field holds 8 bytes at most, or 64 in CAN FD; an identifier without extension has 11 bits (R269). -/
def CanFrame.wf (f : CanFrame) : Bool :=
  decide (f.data.length ≤ (if f.fd then 64 else 8)) && (f.extended || decide (f.id.toNat < 2048))

/-- The widths of a PCIe access that the commands carry (R239). -/
def sizeWf (size : Nat) : Bool := [1, 2, 4, 8].contains size

/-- A command is well formed. -/
def Instr.wf : Instr → Bool
  | .supplyOutOfRange _ _ => true
  | .powerOnResetRelease _ _ => true
  | .resetN _ _ => true
  | .watchdog _ _ => true
  | .bootComplete _ _ _ _ _ => true
  | .fault _ _ _ => true
  | .thermalWarning _ _ _ => true
  | .thermalClear _ _ _ => true
  | .thermalShutdown _ _ => true
  | .hbmTempRead _ _ _ _ => true
  | .refclkLoss _ _ => true
  | .vexcLow _ => true
  | .vledInLow _ _ => true
  | .hbmControllerFailure _ _ => true
  | .hbmDegrade _ => true
  | .scrubCompare _ _ _ => true
  | .scrubReload _ => true
  | .shadowRepair _ _ _ => true
  | .requestBatch _ => true
  | .sessionTimeout _ _ => true
  | .commitApply _ => true
  | .storeDone _ _ => true
  | .bootImageProgrammed _ _ => true
  | .canBusOff _ _ => true
  | .reqTail _ _ msgs => msgs.all (fun m => decide (m.length ≤ 4096))
  | .respHead _ _ => true
  | .respArm _ _ => true
  | .fold _ => true
  | .anchorAdvance _ => true
  | .sync _ _ cap frame => cap.wf && ethWf frame
  | .followUp _ _ frame => ethWf frame
  | .delayReq _ _ _ cap => cap.wf
  | .delayResp _ _ frame => ethWf frame
  | .pdelayReq _ _ cap txCap frame => cap.wf && txCap.wf && ethWf frame
  | .pdelayReqSend _ _ _ cap => cap.wf
  | .pdelayResp _ _ cap frame => cap.wf && ethWf frame
  | .announce _ _ frame => ethWf frame
  | .exchangeTimeout _ _ => true
  | .announceTimeout _ _ => true
  | .ethLinkChange _ _ _ => true
  | .arpRequest _ _ frame => ethWf frame
  | .ethFrameDropped _ _ => true
  | .esmc _ _ ql => decide (ql < 16)
  | .esmcTimeout _ => true
  | .holdClkQualification _ _ => true
  | .pulseFire _ _ => true
  | .pulseEnd _ _ => true
  | .detectEnergy _ _ => true
  | .cdrLock _ _ _ => true
  | .bringupTimeout _ _ => true
  | .signalLoss _ _ sub => subWf sub
  | .uplinkTrain _ _ sub wire => subWf sub && wireWf wire
  | .uplinkCap _ _ sub wire => subWf sub && wireWf wire
  | .uplinkFill _ _ sub wire => subWf sub && wireWf wire
  | .uplinkData _ _ sub wire echoes => subWf sub && wireWf wire && echoes.all EchoCapture.wf
  | .reservedKindFrame _ _ sub wire => subWf sub && wireWf wire
  | .idleExitTimeout _ _ => true
  | .quarantineHoldExpiry _ _ => true
  | .downlinkFrame _ _ sub => subWf sub
  | .deepPowerDown _ _ => true
  | .laneGroupPllLock _ _ => true
  | .sliceSeal _ => true
  | .sliceClose _ _ _ => true
  | .sliceIndexed _ => true
  | .stragglerCountFinal _ => true
  | .lossLogWrite _ => true
  | .alertDatagram _ _ cap frame => cap.wf && ethWf frame
  | .queueEnable _ _ _ => true
  | .queueDisable _ _ _ => true
  | .descTail _ _ _ => true
  | .complHead _ _ _ => true
  | .complArm _ _ _ => true
  | .descriptorReadDone _ _ d => d.all (fun b => decide (b.length = 16))
  | .transferStart _ _ _ _ => true
  | .transferComplete _ _ => true
  | .waitLimitExpiry _ _ => true
  | .moderationTimeout _ _ => true
  | .pcieLinkUp _ gen width _ _ _ mps => decide (1 ≤ gen ∧ gen ≤ 4) && [1, 2, 4, 8, 16].contains width &&
      [128, 256, 512, 1024, 2048, 4096].contains mps
  | .pcieLinkDown _ => true
  | .functionLevelReset _ => true
  | .hotReset _ => true
  | .perstN _ => true
  | .busMasterDisable _ => true
  | .d3hotEntry _ => true
  | .fpLoadDone _ _ => true
  | .fpUpset _ _ _ _ _ => true
  | .fpReload _ _ => true
  | .packetStart _ _ => true
  | .budgetExhausted _ _ => true
  | .pcRange _ _ => true
  | .uncorrectable _ _ _ _ => true
  | .illegal _ _ => true
  | .mv _ _ => true
  | .fmul _ _ => true
  | .fmulr _ _ => true
  | .fmac _ _ => true
  | .fmacr _ _ => true
  | .fmsb _ _ => true
  | .fmsbr _ _ => true
  | .zero _ _ => true
  | .lda _ _ => true
  | .addw _ _ => true
  | .subw _ _ => true
  | .cmpw _ _ => true
  | .absa _ _ => true
  | .nega _ _ => true
  | .rnda _ _ => true
  | .shl1 _ _ => true
  | .shr1 _ _ => true
  | .cpya _ _ => true
  | .suma _ _ => true
  | .difa _ _ => true
  | .andw _ _ => true
  | .orw _ _ => true
  | .xorw _ _ => true
  | .dmul _ _ => true
  | .dmac _ _ => true
  | .dmsb _ _ => true
  | .dmacr _ _ => true
  | .smac _ _ => true
  | .nop _ => true
  | .ldi _ _ _ => true
  | .addi _ _ _ => true
  | .andi _ _ _ => true
  | .ori _ _ _ => true
  | .addd _ _ _ _ => true
  | .subd _ _ _ _ => true
  | .srai _ _ _ => true
  | .slli _ _ _ => true
  | .ldp _ _ _ => true
  | .ldn _ _ _ => true
  | .lea _ _ _ _ => true
  | .rdr _ _ _ => true
  | .wrr _ _ _ => true
  | .geta _ _ _ _ => true
  | .ldx _ _ _ => true
  | .stx _ _ _ => true
  | .ldy _ _ _ => true
  | .sty _ _ _ => true
  | .maxs _ _ _ _ => true
  | .cmpm _ _ _ => true
  | .ftap _ _ _ _ => true
  | .divs _ _ _ => true
  | .imul _ _ _ _ => true
  | .imac _ _ _ _ => true
  | .sraa _ _ _ => true
  | .slla _ _ _ => true
  | .loop _ _ _ => true
  | .loopr _ _ _ => true
  | .jump _ _ => true
  | .jcc _ _ _ => true
  | .exitcc _ _ => true
  | .emit _ _ _ => true
  | .prim _ _ _ => true
  | .done _ => true
  | .satu _ _ _ => true
  | .tinEdge _ _ _ _ _ => true
  | .tinEdgeHandled _ _ => true
  | .gateTimeout _ _ => true
  | .frequencyGate _ _ => true
  | .interpLockChange _ _ _ _ => true
  | .monitorStart _ => true
  | .settleEnd _ => true
  | .conversionResult _ _ => true
  | .breakCheckDone _ _ => true
  | .injectedSequenceBegin _ => true
  | .excFault _ _ _ => true
  | .excFaultClear _ _ => true
  | .excDriverOff _ _ _ => true
  | .trimCompare _ _ _ => true
  | .trimReloadDone _ => true
  | .dimSlot _ _ => true
  | .boostUpdate _ => true
  | .boostOvp _ _ => true
  | .sinkFault _ _ _ _ => true
  | .lowHeadroom _ _ _ => true
  | .lampResponse _ _ => true
  | .lampFlashFrame _ => true
  | .grant _ frame _ => frame.wf
  | .helmInHigh _ => true
  | .grantHelmTimeout _ => true
  | .assignMizzen _ frame => frame.wf
  | .assignFenced _ frame => frame.wf
  | .status _ => true
  | .leaseExpired _ => true
  | .helmLow _ => true
  | .takeover _ => true
  | .slice _ => true
  | .digest _ => true
  | .delay _ => true
  | .start _ => true
  | .commitMessage _ => true
  | .armMessage _ => true
  | .image _ => true
  | .snapshot _ => true
  | .snapshotTake _ => true
  | .takeoverMessage _ => true
  | .hello _ => true
  | .helloSend _ => true
  | .joinMessage _ => true
  | .ack _ => true
  | .stayRetransmit _ => true
  | .partnerLost _ => true
  | .mizzenWaitExpiry _ => true
  | .daWaitExpiry _ _ => true
  | .joinSlice _ => true
  | .drillOverdue _ => true
  | .extest _ => true
  | .idcode _ => true
  | .samplePreload _ => true
  | .highz _ => true
  | .clamp _ => true
  | .extestPulse _ => true
  | .extestTrain _ => true
  | .hbm01500 _ => true
  | .hbm11500 _ => true
  | .jtagState _ => true
  | .deviceReset _ => true
  | .bootRelease _ => true
  | .bypass _ => true
  | .supplyInRange _ _ => true
  | .synceFrequencyOutOfRange _ => true
  | .phaseInterpolatorRead _ _ _ => true
  | .lcpCanFrame _ _ f => f.wf
  | .bar0ShadowWrite _ _ size _ => sizeWf size
  | .queueTableWrite _ _ _ size _ => sizeWf size
  | .badAccess _ bar _ _ size => decide (bar < 6) && sizeWf size
  | .stayLinkFrame _ _ wire => wireWf wire
  | .tmrCorrection _ => true
  | .perstNRelease _ => true
  | .lampFlashFrameEnd _ => true
  | .tapReset _ => true

end Sys2Proof
end

