-- ==== Sys2Proof/Safety.lean ====
section
/-! DEFINITION. What counts as a good state, and what a command may change, in the terms that the statements use. -/

namespace Sys2Proof.Machine

/-- The clock is well formed: C counts whole ticks (R44) and the last fold lies at a multiple of 2^36 (R46). -/
def Timebase.Sound (t : Timebase) : Prop := t.c.toNat % tickFu = 0 ∧ t.cref.toNat % 2 ^ 36 = 0

/-- The memories of a core are in canonical form (R191, R192; log entry 5): no entry of 0, addresses rising. -/
abbrev Core.memoryWf (c : Core) : Prop := Tab.wf 0#48 c.prog ∧ Tab.wf 0#24 c.x ∧ Tab.wf 0#24 c.y

/-- The log, the straggler log and the loss log are in canonical form (R134, R139, R153; log entry 5). -/
abbrev History.memoryWf (h : History) : Prop := Tab.wf 0#64 h.log ∧ Tab.wf 0#128 h.stragLog ∧ Tab.wf 0#128 h.lossLog

/-- Every memory of the device is in canonical form, so that equal memories are equal data. -/
abbrev Memory.wf (s : State) : Prop := s.hist.memoryWf ∧ ∀ e ∈ s.cores, e.2.memoryWf

/-- The outcome is a next state. -/
def Completes (o : Host.Outcome State Fault Refusal) : Prop := ∃ t, o = .next t

/-- Command `c` on `s` answers a next state, and `P` holds of it. -/
def Runs (c : Instr) (s : State) (P : State → Prop) : Prop := ∃ t, exec c s = .next t ∧ P t

/-- `t` is `s` with one more journal entry (R290, R291): it stands at NextEntry with the time, the next device sequence,
its code, source and data; every other entry stays; only sessions (their reports, R280) and ReportsLost change beside. -/
structure Journals (code source : Nat) (data : BitVec 128) (s t : State) : Prop where
  entry : Tab.look t.ctl.journal s.ctl.jNext = some ⟨s.now, s.ctl.seq + 1, code, source, data⟩
  next : t.ctl.jNext = (s.ctl.jNext + 1) % 1024
  written : t.ctl.jCount = s.ctl.jCount + 1
  others : ∀ k, k ≠ s.ctl.jNext → Tab.look t.ctl.journal k = Tab.look s.ctl.journal k
  control : { t.ctl with seq := s.ctl.seq, journal := s.ctl.journal, jNext := s.ctl.jNext, jCount := s.ctl.jCount,
                         sessions := s.ctl.sessions } = s.ctl
  counts : ∀ k, (∀ n, n < 8 → k ≠ kReportsLost n) → t.count k = s.count k
  rest : { t with ctl := s.ctl, stat := s.stat } = s

/-- Everything that the flash holds stays (R292, R295): the copies of the store and of the directory, and the boot slots. -/
structure FlashKept (g g' : Cfg) : Prop where
  store0 : g'.store0 = g.store0
  store1 : g'.store1 = g.store1
  dir0 : g'.dir0 = g.dir0
  dir1 : g'.dir1 = g.dir1
  versionA : g'.versionA = g.versionA
  versionB : g'.versionB = g.versionB
  activeSlot : g'.activeSlot = g.activeSlot

/-! ### Feature processors -/

/-- Instruction `i` is the one that core `g` executes next: the core runs a packet, the word at its program counter decodes
to `i` and is not uncorrectable, the cost is left, and no word that `i` reads is uncorrectable (R199, R204, R221). -/
structure FpReady (g : CoreId) (i : Instr) (s : State) : Prop where
  busy : (s.core g.val).state = .busy
  packet : (s.core g.val).running.isSome = true
  range : (s.core g.val).regs.pc ≤ 0x3FFF
  sound : (s.core g.val).badP.contains (s.core g.val).regs.pc = false
  word : fpDecode g (Tab.get 0#48 (s.core g.val).prog (s.core g.val).regs.pc) = some i
  fits : loopFits (s.core g.val).regs.pc i = true
  paid : fpCost i ≤ (s.core g.val).budget
  reads : (fpEffect i (s.core g.val)).bad = []

/-- What an instruction of `n` cycles on core `g` leaves alone and what it charges (R199): only core `g`, its cycle counter,
and, where writes are ignored or results dropped, AccessFaults and EmitOverflow change. -/
structure FpFrame (g : CoreId) (n : Nat) (s t : State) : Prop where
  charged : (t.core g.val).budget = (s.core g.val).budget - n
  cycles : t.count (kCoreCyclesUsed g.val) = (s.count (kCoreCyclesUsed g.val) + n) % 2 ^ 64
  others : ∀ h, h ≠ g.val → t.core h = s.core h
  counts : ∀ k, k ≠ kCoreCyclesUsed g.val → k ≠ kCoreAccessFaults g.val → k ≠ kCoreEmitOverflow g.val → t.count k = s.count k
  rest : { t with cores := s.cores, stat := s.stat } = s

/-- The core keeps all that is no register, memory, budget or result. -/
def CoreKept (c c' : Core) : Prop :=
  { c' with regs := c.regs, budget := c.budget, x := c.x, y := c.y, badX := c.badX, badY := c.badY, results := c.results } = c

/-- The core keeps its memories and its results. -/
def MemKept (c c' : Core) : Prop := c'.x = c.x ∧ c'.y = c.y ∧ c'.badX = c.badX ∧ c'.badY = c.badY ∧ c'.results = c.results

/-- The core goes on at the next word, unless a loop ends at this one; then only its loop counters and loops may change too
(R197). -/
def NextWord (r r' : Regs) : Prop :=
  (∀ l, r.loops.getLast? = some l → l.2 ≠ r.pc) → r'.pc = r.pc + 1 ∧ r'.loops = r.loops ∧ r'.lc = r.lc

/-- The exact value fits in 56 bits of two's complement. -/
def Fits56 (e : Int) : Prop := -(2 ^ 55) ≤ e ∧ e < 2 ^ 55

/-- Accumulator `a` takes the exact result `e`, wrapped or limited by SAT (R224). -/
def AccTakes (sat : Bool) (e : Int) (v : BitVec 56) : Prop :=
  (Fits56 e → v.toInt = e) ∧
  (¬ Fits56 e → sat = true → v = if 0 ≤ e then 0x7FFFFFFFFFFFFF#56 else 0x80000000000000#56) ∧
  (¬ Fits56 e → sat = false → (v.toInt - e) % 2 ^ 56 = 0)

/-- Bits of SR other than C, V, Z, N, G and SS keep their values. -/
def SrKept (r r' : Regs) : Prop :=
  ∀ n, n ≠ srC → n ≠ srV → n ≠ srZ → n ≠ srN → n ≠ srG → n ≠ srSS → r'.sr.getLsbD n = r.sr.getLsbD n

/-- The flags N, Z and G show a value (R224). -/
def FlagsShow (e : Int) (r : Regs) : Prop :=
  (r.flag srN = true ↔ e < 0) ∧ (r.flag srZ = true ↔ e = 0) ∧ (r.flag srG = true ↔ ¬ (-(2 ^ 47) ≤ e ∧ e < 2 ^ 47))

/-- An accumulator operation (R224): Aa takes `e`; N, Z and G show the stored value, V an overflow, C is `c`, and SS is set
by an overflow; every other accumulator and every other bit of SR is unchanged. -/
def AccResult (a : BitVec 2) (e : Int) (c : Bool) (r r' : Regs) : Prop :=
  AccTakes (r.flag srSAT) e (r'.acc a) ∧ (∀ b, b ≠ a → r'.acc b = r.acc b) ∧
  FlagsShow (r'.acc a).toInt r' ∧ (r'.flag srV = true ↔ ¬ Fits56 e) ∧ r'.flag srC = c ∧
  (r'.flag srSS = true ↔ r.flag srSS = true ∨ ¬ Fits56 e) ∧ SrKept r r'

/-- A dual operation (R224): Aa takes `e`, its partner `e'`; V and SS report an overflow of either. -/
def DualResult (a : BitVec 2) (e e' : Int) (c : Bool) (r r' : Regs) : Prop :=
  AccTakes (r.flag srSAT) e (r'.acc a) ∧ AccTakes (r.flag srSAT) e' (r'.acc (a ^^^ 1#2)) ∧
  (∀ b, b ≠ a → b ≠ a ^^^ 1#2 → r'.acc b = r.acc b) ∧
  FlagsShow (r'.acc a).toInt r' ∧ (r'.flag srV = true ↔ ¬ Fits56 e ∨ ¬ Fits56 e') ∧ r'.flag srC = c ∧
  (r'.flag srSS = true ↔ r.flag srSS = true ∨ ¬ Fits56 e ∨ ¬ Fits56 e') ∧ SrKept r r'

/-- Carry out of bit 55 of the unsigned addition of two operands as placed (R227). -/
def CarryOut (x : BitVec 56) (e : Int) : Bool := decide (2 ^ 56 ≤ x.toNat + (BitVec.ofInt 56 e).toNat)

/-- Borrow from bit 55 (R227). -/
def BorrowOut (x : BitVec 56) (e : Int) : Bool := decide (x.toNat < (BitVec.ofInt 56 e).toNat)

/-- `q` is `e` rounded to a multiple of 2^24; a half goes to the value whose bit 24 is 0, or away from zero (R225). -/
def Rounded (away : Bool) (e q : Int) : Prop :=
  q % 2 ^ 24 = 0 ∧ -(2 ^ 23) ≤ e - q ∧ e - q ≤ 2 ^ 23 ∧
  ((e - q).natAbs = 2 ^ 23 → if away then e.natAbs ≤ q.natAbs else q % 2 ^ 25 = 0)

/-- Format A instruction `i` of fields `f` runs, and `P` holds of the registers before and after it: its operation sets
accumulators and SR; moves set D, P and memory; N and the loop counters away from a loop end stay (R218, R220). -/
def OpRuns (g : CoreId) (i : Instr) (s : State) (P : Regs → Regs → Prop) : Prop :=
  FpReady g i s → Runs i s (fun t => FpFrame g 1 s t ∧ CoreKept (s.core g.val) (t.core g.val) ∧
    (t.core g.val).regs.n = (s.core g.val).regs.n ∧ NextWord (s.core g.val).regs (t.core g.val).regs ∧
    P (s.core g.val).regs (t.core g.val).regs)

/-- Format B instruction `i` of one cycle that only works on registers: `P` holds of them before and after. -/
def RegRuns (g : CoreId) (i : Instr) (s : State) (P : Regs → Regs → Prop) : Prop :=
  FpReady g i s → Runs i s (fun t => FpFrame g 1 s t ∧ CoreKept (s.core g.val) (t.core g.val) ∧
    MemKept (s.core g.val) (t.core g.val) ∧ t.count (kCoreAccessFaults g.val) = s.count (kCoreAccessFaults g.val) % 2 ^ 32 ∧
    P (s.core g.val).regs (t.core g.val).regs)

/-- A store to X at the address used `a` reaches word `k`: not in the packet window (R193, R196). -/
abbrev StoresX (a : BitVec 16) (k : Nat) : Prop := k = a.toNat % 0x8000 ∧ ¬ (0x7000 ≤ k ∧ k < 0x7800)

/-- A store to Y at the address used `a` reaches the physical word `k`: a word of the port's bank (R191, R192, R193). -/
abbrev StoresY (c : Core) (a : BitVec 16) (k : Nat) : Prop :=
  a.toNat % 0x8000 < 0x0C00 ∧ k = c.pkPort % 8 * 0x0C00 + a.toNat % 0x8000

/-- A write to X that R193 ignores. -/
abbrev IgnoredX (a : BitVec 16) : Prop := 0x7000 ≤ a.toNat % 0x8000 ∧ a.toNat % 0x8000 < 0x7800

/-- A write to Y that R193 ignores. -/
abbrev IgnoredY (a : BitVec 16) : Prop := 0x0C00 ≤ a.toNat % 0x8000

/-- Data register `d` takes `v`, the others keep their values. -/
def DataTakes (d : BitVec 3) (v : BitVec 24) (r r' : Regs) : Prop := r'.dreg d = v ∧ ∀ j, j ≠ d → r'.dreg j = r.dreg j

/-- Accumulators, pointers and offsets keep their values, and the core goes on at the next word. -/
def DataRest (r r' : Regs) : Prop := r'.a = r.a ∧ r'.p = r.p ∧ r'.n = r.n ∧ NextWord r r'

/-- N and Z show a 24-bit result; of the other bits of SR only C and V may change (R228). -/
def DataFlags (v : BitVec 24) (r r' : Regs) : Prop :=
  (r'.flag srN = true ↔ v.toInt < 0) ∧ (r'.flag srZ = true ↔ v = 0#24) ∧
  ∀ n, n ≠ srC → n ≠ srV → n ≠ srZ → n ≠ srN → r'.sr.getLsbD n = r.sr.getLsbD n

/-- An instruction of `n` cycles that only moves the program counter and the loops: `P` holds of the registers after it. -/
def FlowRuns (g : CoreId) (i : Instr) (n : Nat) (s : State) (P : Regs → Prop) : Prop :=
  FpReady g i s → Runs i s (fun t => FpFrame g n s t ∧ CoreKept (s.core g.val) (t.core g.val) ∧
    MemKept (s.core g.val) (t.core g.val) ∧ (t.core g.val).regs.d = (s.core g.val).regs.d ∧
    (t.core g.val).regs.a = (s.core g.val).regs.a ∧ (t.core g.val).regs.p = (s.core g.val).regs.p ∧
    (t.core g.val).regs.n = (s.core g.val).regs.n ∧ (t.core g.val).regs.sr = (s.core g.val).regs.sr ∧
    P (t.core g.val).regs)

/-- Data registers, pointers and offsets keep their values. -/
def DataKept (r r' : Regs) : Prop := r'.d = r.d ∧ r'.p = r.p ∧ r'.n = r.n

end Sys2Proof.Machine
end

