-- ==== Sys2Proof/Certificates/Slice0/Obligations.lean ====
section
/-! DEFINITION. The statements about the model, for the provers. -/

open Sys2Proof Sys2Proof.Machine

/-! ### The block as a whole -/

/-- A step takes the command at the front of the queue and runs it on the state with the queue's rest.
With no command waiting one tick of the timebase passes and nothing else happens (the model's choice, log entry 1): C
grows by the 8,192 fu of a tick (R44). -/
def Obligations.StepRunsFrontCommand : Prop :=
  (∀ (c : Instr) (rest : List Instr) (s : State), s.pending = c :: rest → step s = exec c { s with pending := rest }) ∧
  (∀ s : State, s.pending = [] → ∃ t, step s = .next t ∧ t.tb.c = s.tb.c + 8192#64 ∧
     { t with tb := s.tb } = s ∧ { t.tb with c := s.tb.c, up := s.tb.up } = s.tb)

/-- Every command leaves the clock well formed: C is a whole number of ticks and the last fold lies at a multiple of 2^36
(R44, R46). -/
def Obligations.ClockStaysSound : Prop :=
  ∀ s t : State, s.tb.Sound → step s = .next t → t.tb.Sound

/-- The state after reset stands for the release of power-on reset with every rail in range (the model's choice, log entry 3):
the device is in BOOT, C is 0, the clock is well formed, the history memories are in canonical form, every object holds its
default, and no command waits. -/
def Obligations.ResetStateIsSound : Prop :=
  State.reset.tb.Sound ∧ State.reset.tb.c = 0#64 ∧ State.reset.sys.dev = .boot ∧ State.reset.pending = [] ∧
  Tab.wf 0#64 State.reset.hist.log ∧ Tab.wf 0#128 State.reset.hist.lossLog ∧ Tab.wf 0#128 State.reset.hist.stragLog ∧
  Tab.wf 0 State.reset.stat ∧ (∀ o, State.reset.conf o = o.dflt) ∧ State.reset.ctl.jCount = 0#32 ∧
  State.reset.cfg.number = 0#64

/-! ### Supplies and resets (R28, R44, R407, R408, R417, R418, R421, R422) -/

/-- A supervised rail leaves or enters its range: the first takes the device into POWERED, which keeps only the flash, the
pins and the other rails; the second sets the rail's bit and nothing else.
R28, R44, R417, R418: with every supervised rail in range, the release of power-on reset begins BOOT with cause 0: C is 0,
the journal, DeviceSequence and all counters are cleared, the straps are sampled, and TwinMode takes its stored value. A node
strapped to 0 is journalled. Without every rail in range nothing changes. -/
def Obligations.RailsAndPowerOnReset : Prop :=
  (∀ (dt : Nat) (r : RailId) (s : State),
     Runs (.supplyOutOfRange dt r) s (fun t => t.sys.dev = .powered ∧ t.sys.role = .solo ∧
       (∀ i, t.sys.rails.getLsbD i = (s.sys.rails.getLsbD i && decide (i ≠ r.val))) ∧
       t.sys.strapPins = s.sys.strapPins ∧ t.sys.ir = s.sys.ir ∧ t.sys.jtagHeld = s.sys.jtagHeld ∧ FlashKept s.cfg t.cfg ∧
       { t.cfg with store0 := none, store1 := none, dir0 := none, dir1 := none, versionA := 0#32, versionB := 0#32,
                    activeSlot := 0 } = Cfg.empty ∧
       t.twin = { Twin.empty with helm := s.twin.helm } ∧
       { t with pending := s.pending, sys := s.sys, cfg := s.cfg, twin := s.twin, out := s.out, free := s.free } =
         { State.reset with pending := s.pending, sys := s.sys, cfg := s.cfg, twin := s.twin, out := s.out, free := s.free } ∧
       t.pending = s.pending ∧ t.out = s.out) ∧
     Runs (.supplyInRange dt r) s (fun t =>
       (∀ i, t.sys.rails.getLsbD i = (s.sys.rails.getLsbD i || decide (i = r.val))) ∧
       t.sys.misordered = (s.sys.misordered || outOfOrder s.sys.rails r) ∧
       { t.sys with rails := s.sys.rails, misordered := s.sys.misordered } = s.sys ∧ { t with sys := s.sys } = s.elapse dt)) ∧
  (∀ (dt : Nat) (straps : BitVec 8) (s : State), s.sys.dev = .powered →
     (s.sys.rails = 0x1FF#9 → Runs (.powerOnResetRelease dt straps) s (fun t =>
       t.sys.dev = .boot ∧ t.sys.cause = 0 ∧ t.sys.straps = straps ∧ t.sys.strapPins = straps ∧
       t.sys.bootHold = straps.getLsbD 7 ∧ t.sys.rails = s.sys.rails ∧ t.sys.jtagHeld = s.sys.jtagHeld ∧
       t.imm cTwinMode = s.storedTwinMode ∧ t.sys.role = (if s.storedTwinMode = 1 then .fenced else .solo) ∧
       FlashKept s.cfg t.cfg ∧ t.cfg.epoch = [] ∧ t.cfg.number = 0#64 ∧ t.tb = Timebase.empty ∧ t.tb.c = 0#64 ∧
       (∀ k, t.count k = 0) ∧ t.ports = [] ∧ t.cores = [] ∧ t.hist = History.empty ∧ t.host = HostPort.empty ∧
       (straps.toNat % 128 ≠ 0 → t.ctl = Control.empty) ∧
       (straps.toNat % 128 = 0 → t.ctl.jCount = 1#32 ∧ ∃ e, t.ctl.journal = [(0, e)] ∧ e.code = 0x0052 ∧ e.source = 0xFFFF))) ∧
     (s.sys.rails ≠ 0x1FF#9 → exec (.powerOnResetRelease dt straps) s = .next (s.elapse dt)))

/-- R43, R58, R271, R417, R418, R422: RESET_N, the watchdog and DEVICE_RESET begin BOOT with causes 1, 2 and 3. They keep the
timebase (C, b, cref, the anchor; FREERUN, and f becomes 0 at the first fold), the journal, DeviceSequence, the counters of
index 0x5000, TwinMode, the flash, the logs with their check words, the memories of the cores and the mailbox slots, and clear
the rest; every index entry counts no more, and every context is free.
R417, R422: in POWERED, and while the TAP holds the device in reset, RESET_N and the watchdog begin no BOOT; only the strap
pins change. -/
def Obligations.DeviceResetKeepsTheTimebase : Prop :=
  (∀ (dt : Nat) (p : BitVec 8) (s : State) (i : Instr) (cause : Nat) (straps : BitVec 8),
     (i, cause, straps) ∈ [(.resetN dt p, 1, p), (.watchdog dt p, 2, p), (.deviceReset dt, 3, s.sys.strapPins)] →
     s.sys.dev ≠ .powered → s.sys.jtagHeld = false →
     Runs i s (fun t => t.sys.dev = .boot ∧ t.sys.cause = cause ∧ t.sys.straps = straps ∧ t.sys.bootHold = straps.getLsbD 7 ∧
       t.sys.rails = s.sys.rails ∧ t.imm cTwinMode = s.imm cTwinMode ∧
       t.sys.role = (if s.imm cTwinMode = 1 then .fenced else .solo) ∧
       t.tb.c = (s.elapse dt).tb.c ∧ t.tb.b = s.tb.b ∧ t.tb.f = s.tb.f ∧ t.tb.cref = s.tb.cref ∧ t.tb.nextF = some 0 ∧
       t.tb.servo = .freerun ∧ t.tb.anchorValid = s.tb.anchorValid ∧ t.tb.anchorTw = s.tb.anchorTw ∧
       t.tb.anchorSec = s.tb.anchorSec ∧ t.tb.anchorNs = s.tb.anchorNs ∧ t.now = (s.elapse dt).now ∧
       (∀ k, t.count k = if k / 256 = 0x5000 then s.count k else 0) ∧
       t.hist.log = s.hist.log ∧ t.hist.owners = s.hist.owners ∧ t.hist.poisoned = s.hist.poisoned ∧
       t.hist.counted = s.hist.counted ∧ t.hist.badIndex = s.hist.badIndex ∧ t.hist.stragLog = s.hist.stragLog ∧
       t.hist.lossLog = s.hist.lossLog ∧ t.hist.index = [] ∧
       { t.hist with log := [], owners := [], poisoned := [], counted := [], indexOld := [], badIndex := [], stragLog := [],
                     lossLog := [] } = History.empty ∧
       FlashKept s.cfg t.cfg ∧ t.cfg.epoch = [] ∧ t.cfg.number = 0#64 ∧ t.ctl.sessions = [] ∧ t.ctl.slots = s.ctl.slots ∧
       (straps.toNat % 128 ≠ 0 → t.ctl.journal = s.ctl.journal ∧ t.ctl.jNext = s.ctl.jNext ∧ t.ctl.jCount = s.ctl.jCount ∧
         t.ctl.seq = s.ctl.seq) ∧
       (straps.toNat % 128 = 0 → Journals 0x0052 0xFFFF 0#128 { t with ctl := { Control.empty with
           seq := s.ctl.seq, journal := s.ctl.journal, jNext := s.ctl.jNext, jCount := s.ctl.jCount,
           slots := s.ctl.slots } } t) ∧
       t.ports = [] ∧ t.stay = [] ∧ t.groups = [] ∧ t.tins = [] ∧ t.pulse = [] ∧
       { t.trig with freed := [] } = Trigger.empty ∧
       (∀ g, (t.core g).state = .off ∧ (t.core g).imageId = 0#32 ∧ (t.core g).queue = [] ∧ (t.core g).prog = (s.core g).prog ∧
         (t.core g).x = (s.core g).x ∧ (t.core g).y = (s.core g).y) ∧
       t.host = HostPort.empty ∧ t.mon = Monitor.empty ∧ t.light = Light.empty ∧ t.twin = { Twin.empty with helm := s.twin.helm } ∧
       t.pending = s.pending ∧ t.out = s.out)) ∧
  (∀ (dt : Nat) (p : BitVec 8) (s : State) (i : Instr), i ∈ [.resetN dt p, .watchdog dt p] →
     s.sys.dev = .powered ∨ s.sys.jtagHeld = true →
     exec i s = .next { s.elapse dt with sys := { s.sys with strapPins := p } })

/-- R421, R422: the instructions that only occupy the TAP, while no instruction holds the device in reset: each becomes the
instruction; IDCODE and STATE also capture their 32 bits, and BOOT_RELEASE ends the hold of BOOT_HOLD.
R422: EXTEST, HIGHZ, CLAMP, EXTEST_PULSE and EXTEST_TRAIN hold the device in device reset with cause 3; in POWERED only the
instruction changes and the device counts as held. Another instruction then begins BOOT with cause 3, the timebase counting
on. -/
def Obligations.TapInstructionsAndHeldReset : Prop :=
  (∀ (dt : Nat) (s : State), s.sys.jtagHeld = false →
     (∀ i ir, (i, ir) ∈ [(Instr.tapReset dt, 0x01#8), (.samplePreload dt, 0x02#8), (.hbm01500 dt, 0x10#8),
         (.hbm11500 dt, 0x11#8), (.bypass dt, 0xFF#8)] →
       exec i s = .next { s.elapse dt with sys := { s.sys with ir := ir } }) ∧
     Runs (.idcode dt) s (fun t => t.sys.ir = 0x01#8 ∧ t.sys.tapData.extractLsb' 28 4 = 2#4 ∧
       t.sys.tapData.extractLsb' 12 16 = 0xC192#16 ∧ t.sys.tapData.extractLsb' 1 11 = Config.jep106 ∧
       t.sys.tapData.getLsbD 0 = true ∧ { t with sys := { t.sys with ir := s.sys.ir, tapData := s.sys.tapData } } = s.elapse dt) ∧
     Runs (.jtagState dt) s (fun t => t.sys.ir = 0x20#8 ∧
       t.sys.tapData.extractLsb' 0 8 = BitVec.ofNat 8 s.sys.dev.num ∧ t.sys.tapData.extractLsb' 8 8 = BitVec.ofNat 8 s.sys.role.num ∧
       t.sys.tapData.extractLsb' 16 9 = s.sys.rails ∧ t.sys.tapData.extractLsb' 26 6 = 0#6 ∧
       { t with sys := { t.sys with ir := s.sys.ir, tapData := s.sys.tapData } } = s.elapse dt) ∧
     exec (.bootRelease dt) s = .next { s.elapse dt with sys := { s.sys with ir := 0x22#8, bootHold := false } }) ∧
  (∀ (dt : Nat) (s : State),
     (∀ i ir, (i, ir) ∈ [(Instr.extest dt, 0x00#8), (.highz dt, 0x03#8), (.clamp dt, 0x04#8), (.extestPulse dt, 0x05#8),
         (.extestTrain dt, 0x06#8)] →
       (s.sys.dev ≠ .powered → s.sys.jtagHeld = false → Runs i s (fun t => t.sys.jtagHeld = true ∧ t.sys.ir = ir ∧
         t.sys.dev = .boot ∧ t.sys.cause = 3 ∧ t.tb.c = (s.elapse dt).tb.c ∧ t.tb.servo = .freerun ∧ (∀ g, (t.core g).state = .off) ∧
         t.ports = [] ∧ (∀ k, t.count k = if k / 256 = 0x5000 then s.count k else 0))) ∧
       (s.sys.dev = .powered ∨ s.sys.jtagHeld = true →
         exec i s = .next { s.elapse dt with sys := { s.sys with ir := ir, jtagHeld := true } })) ∧
     (s.sys.jtagHeld = true → s.sys.dev ≠ .powered →
       ∀ i, i ∈ [Instr.bypass dt, .idcode dt, .tapReset dt, .samplePreload dt, .jtagState dt, .bootRelease dt, .hbm01500 dt,
           .hbm11500 dt] →
         Runs i s (fun t => t.sys.jtagHeld = false ∧ t.sys.dev = .boot ∧ t.sys.cause = 3 ∧
           t.sys.straps = s.sys.strapPins ∧ t.tb.c = (s.elapse dt).tb.c)))

/-! ### Boot, FAULT, temperatures, clocks and supplies (R28, R31, R293, R295, R407, R413, R414, R416) -/

/-- R28, R287, R293, R295: BOOT with a valid image and both stacks trained ends in STANDSTILL with the stored configuration,
or the factory defaults, as epoch 0 of staging, active and epoch; RunControl is 0, whatever the store holds. The slot is the
preferred one where it holds an image, otherwise the other; the versions are those found, 0 for an invalid slot (R298). -/
def Obligations.BootEndsInStandstill : Prop :=
  ∀ (dt : Nat) (a b : Option (BitVec 32)) (s : State),
    s.sys.dev = .boot → s.sys.bootHold = false → s.sys.jtagHeld = false → s.sys.hbmUntrained = false →
    a.isSome = true ∨ b.isSome = true →
    Runs (.bootComplete dt a b true true) s (fun t => t.sys.dev = .standstill ∧ t.sys.role = s.sys.role ∧
      t.cfg.activeSlot = (if s.cfg.firstSlot = 0 then (if a.isSome then 0 else 1) else (if b.isSome then 1 else 0)) ∧
      t.cfg.versionA = a.getD 0#32 ∧ t.cfg.versionB = b.getD 0#32 ∧
      t.cfg.number = 0#64 ∧ t.cfg.pending = none ∧ t.cfg.staging = t.cfg.epoch ∧ t.cfg.active = t.cfg.epoch ∧
      (∀ k, Tab.look t.cfg.epoch k = if k = cRunControl.key ∨ k = cFpBankReset.key then none
        else Tab.look ((s.cfg.store.map (·.table)).getD []) k) ∧
      t.conf cRunControl = 0 ∧ t.imm cTwinMode = s.imm cTwinMode ∧
      t.cfg.images = (s.cfg.store.map (·.images)).getD [] ∧ t.cfg.store0 = s.cfg.store0 ∧ t.cfg.store1 = s.cfg.store1 ∧
      t.cfg.dir0 = s.cfg.dir0 ∧ t.cfg.dir1 = s.cfg.dir1 ∧ t.tb.c = (s.elapse dt).tb.c)

/-- R28, R31, R87, R94: a fault takes the device into FAULT: the role becomes FENCED on a paired unit and SOLO otherwise, every
lane enters DEEP with its lane group down, the cores and the light drive are off, the data path stops, and the stay link is
down; the configuration and the clock go on, and a step that waited in STANDSTILL is dropped (R60).
R31, R291: the entry to FAULT is journalled first, with its cause and detail; the causes are 1 the TMR registers, 2 the
controller's memory, 3 both HBM controllers, 4 the shutdown limit, whose detail is a free value (log entry 6). In POWERED and
in FAULT nothing happens. -/
def Obligations.FaultStopsTheDevice : Prop :=
  (∀ (dt : Nat) (detail : BitVec 32) (temp : BitVec 16) (s : State) (i : Instr),
     s.sys.dev ∈ [DevState.boot, .standstill, .run, .fenced] →
     (∃ cause, i = .fault dt cause detail) ∨ (i = .thermalShutdown dt temp ∧ 115 * 16 < temp.toInt) →
     Runs i s (fun t => t.sys.dev = .fault ∧ t.sys.role = (if s.imm cTwinMode = 1 then .fenced else .solo) ∧
       (∀ p, p < 192 → (t.port p).st = .deep) ∧ (∀ l, l < 4 → (Tab.get Port.empty t.stay l).st = .deep) ∧
       (∀ k, k < 24 → (t.group k).phase = 2) ∧ (∀ g, g < 24 → (t.core g).state = .off) ∧ t.light.ledOut = 0 ∧
       t.hist.nextSeal = none ∧ t.twin.partnerUp = false ∧ t.ctl.held = [] ∧ t.cfg = s.cfg ∧
       { t.tb with stepTarget := s.tb.stepTarget, autoStep := s.tb.autoStep } = (s.elapse dt).tb ∧
       (s.sys.dev = .standstill → t.tb.stepTarget = none ∧ t.tb.autoStep = none))) ∧
  (∀ (dt : Nat) (detail : BitVec 32) (temp : BitVec 16) (s : State),
     let u := s.elapse dt
     let hot : State := { u with sys := { s.sys with die := temp } }
     (s.sys.dev ∈ [DevState.boot, .standstill, .run, .fenced] →
       (∀ cause n, (cause, n) ∈ [(FaultCause.tmr, 1), (.controllerMemory, 2), (.bothHbm, 3)] →
         exec (.fault dt cause detail) s =
           .next ((u.journal 0x0002 0xFFFF (jdata [(0, n), (4, detail.toNat)])).toFault none 0)) ∧
       (115 * 16 < temp.toInt → exec (.thermalShutdown dt temp) s = .next ((hot.nextFree.journal 0x0002 0xFFFF
         (jdata [(0, 4), (4, ((Config.freeBits s.free).setWidth 32).toNat)])).toFault none 0))) ∧
     (s.sys.dev = .powered ∨ s.sys.dev = .fault → ∀ cause, exec (.fault dt cause detail) s = .next u) ∧
     (temp.toInt ≤ 115 * 16 → exec (.thermalShutdown dt temp) s = .next hot))

/-- R413, R414: a warning above 100 °C once, a clear below 95 °C after it, the readings of the die and the stacks, and the
doubled refresh above 85 °C; DieTempMax is the highest reading (16 units to the degree).
R28, R31, R155: the first failure of an HBM controller, in BOOT too, makes the degradation due at the next slice boundary; the
failure of both leads to FAULT with cause 3. At that boundary the history restarts on the surviving stack: HbmDegraded is 1, the head is word 0 of the halved log, the history begins
with the present slice, and HBM_DEGRADED is journalled with the failed stack; before it nothing happens. -/
def Obligations.DieAndStacksAreWatched : Prop :=
  (∀ (dt : Nat) (temp die t0 t1 : BitVec 16) (sensor : SensorId) (s : State),
     let u := s.elapse dt
     (s.sys.dev ≠ .powered → s.sys.warnArmed = true → 100 * 16 < temp.toInt →
       exec (.thermalWarning dt temp sensor) s =
         .next ((({ u with sys := { s.sys with die := temp, warnArmed := false } } : State).journal 0x0050 0xFFFF
           (jdata [(0, temp.toNat), (2, sensor.val)])).bump kThermalWarnings)) ∧
     (s.sys.warnArmed = false ∨ temp.toInt ≤ 100 * 16 →
       exec (.thermalWarning dt temp sensor) s = .next { u with sys := { s.sys with die := temp } }) ∧
     (s.sys.warnArmed = false → temp.toInt < 95 * 16 →
       exec (.thermalClear dt temp sensor) s =
         .next (({ u with sys := { s.sys with die := temp, warnArmed := true } } : State).journal 0x0051 0xFFFF
           (jdata [(0, temp.toNat), (2, sensor.val)]))) ∧
     (s.sys.dev ≠ .powered → s.sys.dev ≠ .fault → s.sys.ir ≠ 0x10#8 → s.sys.ir ≠ 0x11#8 →
       Runs (.hbmTempRead dt die t0 t1) s (fun t => t.sys.stack0 = t0 ∧ t.sys.stack1 = t1 ∧
         (t.sys.fast0 = true ↔ 85 < t0.toInt) ∧ (t.sys.fast1 = true ↔ 85 < t1.toInt) ∧
         (-2048 ≤ t0.toInt ∧ t0.toInt < 2048 → -2048 ≤ t1.toInt ∧ t1.toInt < 2048 → die.toInt ≤ t.sys.die.toInt ∧
           16 * t0.toInt ≤ t.sys.die.toInt ∧ 16 * t1.toInt ≤ t.sys.die.toInt ∧
           (t.sys.die = die ∨ t.sys.die.toInt = 16 * t0.toInt ∨ t.sys.die.toInt = 16 * t1.toInt)) ∧
         { t with sys := s.sys } = u ∧
         { t.sys with die := s.sys.die, stack0 := s.sys.stack0, stack1 := s.sys.stack1, fast0 := s.sys.fast0,
                      fast1 := s.sys.fast1 } = s.sys)) ∧
     (∀ k : Fin 2, s.sys.ir = 0x10#8 + BitVec.ofNat 8 k.val → Runs (.hbmTempRead dt die t0 t1) s (fun t =>
       (k = 0 → t.sys.stack0 = s.sys.stack0) ∧ (k = 1 → t.sys.stack1 = s.sys.stack1)))) ∧
  (∀ (dt : Nat) (stack : Fin 2) (s : State),
     let u := s.elapse dt
     (s.sys.dev ∈ [DevState.boot, .standstill, .run, .fenced] → s.sys.hbmFailed = 0#2 →
       exec (.hbmControllerFailure dt stack) s =
         .next { u with sys := { s.sys with hbmFailed := BitVec.ofNat 2 (2 ^ stack.val), degradeDue := some (sliceAdd u.slice 1) } }) ∧
     (s.sys.dev ∈ [DevState.boot, .standstill, .run, .fenced] → s.sys.hbmFailed = BitVec.ofNat 2 (2 ^ (1 - stack.val)) →
       Runs (.hbmControllerFailure dt stack) s (fun t => t.sys.dev = .fault)) ∧
     (∀ b, s.sys.degradeDue = some b → sliceLe b u.slice = false → exec (.hbmDegrade dt) s = .next u) ∧
     (∀ b, s.sys.degradeDue = some b → sliceLe b u.slice = true → s.count kHbmDegraded = 0 → Runs (.hbmDegrade dt) s (fun t =>
       t.count kHbmDegraded = 1 ∧ t.logWords = s.logWords / 2 ∧ t.hist.head % t.logWords = 0 ∧ t.sys.degradeDue = none ∧
       t.hist.firstRun = u.slice ∧ t.hist.oldest = u.slice ∧ t.ctl.jCount = s.ctl.jCount + 1 ∧
       (∃ e, Tab.look t.ctl.journal s.ctl.jNext = some e ∧ e.code = 0x0401 ∧ e.data = BitVec.ofNat 128 (bnat (s.sys.hbmFailed.getLsbD 1))) ∧
       t.cfg = s.cfg ∧ t.tb = u.tb ∧ t.cores = s.cores)))

/-- R407, R416: REFCLK lost while no other source is qualified is journalled once, and so is its return; VLED_IN below 9.5 V
stops the boost switch until it is above 10.0 V.
R370, R407: VEXC below 4.5 V: exactly the channels that drive show an excitation fault, which is counted once for each
channel that showed none, and their drivers are off; the clock, the configuration and the device state are untouched. -/
def Obligations.UnsupervisedInputsAreNoted : Prop :=
  (∀ (dt mv : Nat) (s : State),
     let u := s.elapse dt
     (s.sys.refclkNoted = false → u.synceQualified = false → u.holdQualified = false →
       exec (.refclkLoss dt false) s = .next (({ u with sys := { s.sys with refclk := false, refclkNoted := true } } :
         State).journal 0x0053 0xFFFF 0#128)) ∧
     (s.sys.refclkNoted = true →
       exec (.refclkLoss dt true) s = .next (({ u with sys := { s.sys with refclk := true, refclkNoted := false } } :
         State).journal 0x0053 0xFFFF 1#128)) ∧
     (s.sys.refclkNoted = false → exec (.refclkLoss dt true) s = .next { u with sys := { s.sys with refclk := true } }) ∧
     Runs (.vledInLow dt mv) s (fun t => (mv < 9500 → t.sys.vled = false) ∧ (10000 < mv → t.sys.vled = true) ∧
       (9500 ≤ mv → mv ≤ 10000 → t.sys.vled = s.sys.vled) ∧ { t with sys := { t.sys with vled := s.sys.vled } } = u)) ∧
  (∀ (dt : Nat) (s : State), s.mon.power = true → s.sys.dev ≠ .fault →
     Runs (.vexcLow dt) s (fun t =>
       (∀ k, k < 8 → t.mon.excStatus.getLsbD k = (s.mon.excStatus.getLsbD k || decide (s.conf (cExcMode k) ≠ 0)) ∧
         t.mon.excOff.getLsbD k = (s.mon.excOff.getLsbD k || decide (s.conf (cExcMode k) ≠ 0))) ∧
       t.count kMonExcFaults % 2 ^ 32 = (s.count kMonExcFaults + (List.range 8).countP (fun k =>
         decide (s.conf (cExcMode k) ≠ 0) && !s.mon.excStatus.getLsbD k)) % 2 ^ 32 ∧
       { t.mon with excStatus := s.mon.excStatus, excOff := s.mon.excOff } = s.mon ∧
       t.cfg = s.cfg ∧ t.sys = s.sys ∧ t.tb = (s.elapse dt).tb ∧ t.cores = s.cores ∧ t.hist = s.hist))

/-! ### Sessions, transports and the shadow (R269 to R297) -/

/-- R290, R291: a journal entry takes the next device sequence and stands at NextEntry; every other entry stays. -/
def Obligations.JournalAppendsOneEntry : Prop :=
  ∀ (code source : Nat) (data : BitVec 128) (s : State), Journals code source data s (s.journal code source data)

/-- R269 to R272: the mailbox indices and the CAN receive buffers. A ReqTail write stores the posted messages, the index and
the time of the posting (R282); an index out of range only counts in BadAccess; a CAN frame for this node from a client enters its bus's buffer of 32, a frame
that finds it full is counted, and a frame of another format is ignored and counted.
R245, R271, R272: a RespHead write frees response slots; with ARM it arms the mailbox. With nothing unread and no report
waiting nothing else happens; an index out of range only counts in BadAccess. -/
def Obligations.RequestsArriveInOrder : Prop :=
  (∀ (dt : Nat) (value : BitVec 32) (msgs : List (List Byte)) (bus : CanBus) (f : CanFrame) (s : State),
     let u := s.elapse dt
     let i := value.toNat % 65536
     (s.barOpen = true → i < 16 → Runs (.reqTail dt value msgs) s (fun t => t.ctl.reqTail = i ∧
       (∀ j, j < msgs.length → j < 16 → Tab.look t.ctl.slots ((s.ctl.reqTail + j) % 16) = msgs[j]?) ∧
       (∀ k, 16 ≤ k → Tab.look t.ctl.slots k = Tab.look s.ctl.slots k) ∧
       t.ctl.posted = (s.ctl.posted ++ List.replicate 16 u.now).take ((i + 16 - s.ctl.reqHead) % 16) ∧
       { t with ctl := s.ctl } = u ∧
       { t.ctl with slots := s.ctl.slots, reqTail := s.ctl.reqTail, posted := s.ctl.posted } = s.ctl)) ∧
     (s.barOpen = true → 16 ≤ i → exec (.reqTail dt value msgs) s = .next (u.bump kHostBadAccess)) ∧
     (s.serving = true → f.extended = true → f.fd = true → f.data.length = 64 → f.brs = true → f.id.toNat / 2 ^ 24 = 8 →
       f.id.toNat / 256 % 256 = s.ownNode → 128 ≤ f.id.toNat % 256 → f.id.toNat % 256 ≤ 253 →
       ((s.ctl.buffer bus).length < 32 → Runs (.lcpCanFrame dt bus f) s (fun t =>
         t.ctl.buffer bus = s.ctl.buffer bus ++ [⟨if bus = .a then .canA else .canB, f.id.toNat % 256, f.data, u.now⟩] ∧
         { t with ctl := s.ctl } = u ∧ { t.ctl with canA := s.ctl.canA, canB := s.ctl.canB } = s.ctl)) ∧
       (32 ≤ (s.ctl.buffer bus).length → exec (.lcpCanFrame dt bus f) s = .next (u.bump (busOverrun bus)))) ∧
     (s.serving = true → f.extended = false ∨ f.fd = false ∨ f.data.length ≠ 64 →
       exec (.lcpCanFrame dt bus f) s = .next (u.bump (busIgnored bus))) ∧
     exec (.canBusOff dt bus) s = .next (u.bump (busOffs bus))) ∧
  (∀ (dt : Nat) (value : BitVec 32) (s : State),
     let u := s.elapse dt
     let i := value.toNat % 65536
     s.barOpen = true →
     (i = s.ctl.respTail → i < 32 → (∀ e ∈ s.ctl.sessions, e.2.reports = []) →
       exec (.respHead dt value) s =
         .next { u with ctl := { s.ctl with respHead := i, armed := s.ctl.armed || value.getLsbD 31 } } ∧
       exec (.respArm dt value) s = .next { u with ctl := { s.ctl with respHead := i, armed := true } }) ∧
     (32 ≤ i → exec (.respHead dt value) s = .next (u.bump kHostBadAccess) ∧
       exec (.respArm dt value) s = .next (u.bump kHostBadAccess)) ∧
     (i < 32 → i ≠ s.ctl.respTail → s.canSignal = true → (∀ e ∈ s.ctl.sessions, e.2.reports = []) →
       (Tab.get msixReset s.host.msix (s.imm cMailboxVector)).getLsbD 96 = false →
       exec (.respArm dt value) s = .next ((({ u with
         ctl := { s.ctl with respHead := i, armed := false }
         host := { s.host with msixPending := s.host.msixPending.filter (· ≠ s.imm cMailboxVector) } } : State).bump64
         kHostInterruptsSent).emit (.msix (s.imm cMailboxVector)))))

/-- R271 to R275, R278, R279, R282: a batch that holds one mailbox READ, posted before the batch's boundary, of a present,
readable value object in its session's sequence, with 0 where its header says 0: the response with the next device sequence, status OK and the value stands in slot RespTail, both rings advance, the
session expects the next sequence and keeps the response; nothing but an interrupt happens beside. -/
def Obligations.MailboxReadIsAnswered : Prop :=
  ∀ (dt k : Nat) (x : Session) (r : ObjRow) (b : List Byte) (posted : Tw) (s : State),
    let u := s.elapse dt
    let h := headerOf b
    let msg := lcpMessage 1 3 k h.number (s.ctl.seq + 1) h.index h.sub 0 (leBytes r.ty.bytes (u.readValue r h.index h.sub))
    s.serving = true → s.ctl.canA = [] → s.ctl.canB = [] → u.mailboxRequests = [⟨.mailbox, 0, b, posted⟩] →
    before posted (sliceStart u.slice) = true → zeroBytes .mailbox h b = true → 0 < s.freeSlots →
    k < 8 → s.session k = some x → x.transport = .mailbox → x.node = 0 → x.collect = none →
    (∀ e ∈ s.ctl.sessions, e.2.reports = []) →
    h.kind = 0 → h.len ≤ 4080 → h.service = 3 → h.session = k → h.number = x.expected →
    objAt h.index h.sub = some r → r.acc ≠ .wo → r.ty ≠ .domain → r.ty ≠ .string → h.index ≠ 0x1010 → h.index ≠ 0x5000 →
    Runs (.requestBatch dt) s (fun t =>
      Tab.look t.ctl.slots (16 + s.ctl.respTail) = some msg ∧
      (∀ j, j ≠ 16 + s.ctl.respTail → Tab.look t.ctl.slots j = Tab.look s.ctl.slots j) ∧
      t.ctl.respTail = (s.ctl.respTail + 1) % 32 ∧ t.ctl.reqHead = (s.ctl.reqHead + 1) % 16 ∧ t.ctl.seq = s.ctl.seq + 1 ∧
      t.session k = some { x with expected := x.expected + 1, kept := msg, lastC := u.tb.c } ∧
      (∀ j, j ≠ k → t.session j = s.session j) ∧
      { t with ctl := s.ctl, stat := s.stat, out := s.out, host := s.host } = u)

/-- R276, R283, R284, R304, R305, R307: a WRITE of a shadowed object outside FAULT by a role and a session that may: a value in
range goes to staging with status OK, a clamped one with status CLAMPED and a clamp report; a BOOL above 1 receives
INVALID_VALUE, and a wrong length LENGTH, and nothing changes. Access, level, state, role and owner are checked in this order
before. -/
def Obligations.StagedWritesCheckInOrder : Prop :=
  ∀ (k : Nat) (x : Session) (tr : Tw) (seq : BitVec 32) (h : Header) (r : ObjRow) (s : State),
    let v := leNat h.data
    let w := s.execute k x tr seq h
    x.collect = none → h.service = 4 → objAt h.index h.sub = some r →
    (r.acc = .ro ∨ r.acc = .const → w = ⟨0x12, [], s⟩) ∧
    (r.acc = .rw ∨ r.acc = .wo → r.expert = true → x.expert = false → w = ⟨0x13, [], s⟩) ∧
    (r.acc = .rw ∨ r.acc = .wo → (r.expert = true → x.expert = true) → r.eff = .staged → r.ty ≠ .domain →
      h.index ∉ [0x1011, 0x1030, 0x1031, 0x1041, 0x1050] →
      (h.data.length ≠ r.ty.bytes → w = ⟨0x14, [], s⟩) ∧
      (h.data.length = r.ty.bytes →
        (s.sys.dev = .fault → w = ⟨0x16, [], s⟩) ∧
        (s.sys.dev ≠ .fault → s.sys.role = .mizzen → isLocal h.index = false → w = ⟨0x1E, [], s⟩) ∧
        (s.sys.dev ≠ .fault → s.sys.role ≠ .mizzen ∨ isLocal h.index = true →
          (s.cfg.owner ≠ 255 ∧ s.cfg.owner ≠ k → w = ⟨0x1A, [], s⟩) ∧
          (s.cfg.owner = 255 ∨ s.cfg.owner = k → r.ty = .bool → 1 < v → w = ⟨0x15, [], s⟩) ∧
          (s.cfg.owner = 255 ∨ s.cfg.owner = k → (r.ty = .bool → v ≤ 1) → (∀ y, s.special k tr h.index h.sub y = none) →
            ¬ (0x2110 ≤ h.index ∧ h.index < 0x2120) →
            (∀ y, (s.rowNow r h.index h.sub).check v = .stored y → w = ⟨0x00, leBytes r.ty.bytes y,
              { s with cfg := { s.cfg with staging := Tab.set r.dflt s.cfg.staging (key h.index h.sub) y } }⟩) ∧
            (∀ y, (s.rowNow r h.index h.sub).check v = .clamped y → w.status = 0x01 ∧ w.data = leBytes r.ty.bytes y ∧
              w.state.cfg = { s.cfg with staging := Tab.set r.dflt s.cfg.staging (key h.index h.sub) y } ∧
              w.state.ctl.clampTotal = s.ctl.clampTotal + 1)))))

/-- R284, R285, R286, R304: a Commit is checked for state, role, owner, a pending commit and its time in this order; accepted,
it copies staging to pending, answers the boundary slice at or after its time and the epoch that it will create, and leaves
staging as it is. -/
def Obligations.CommitChecksInOrder : Prop :=
  ∀ (k raw : Nat) (tr : Tw) (seq : BitVec 32) (r : ObjRow) (s : State),
    let c := roundUpSlice (BitVec.ofNat 64 raw)
    let lead := leadOf c tr
    let w := s.writeValue k tr seq r 0x1031 0 raw
    (s.sys.dev = .fault → w.status = 0x16 ∧ w.state = s) ∧
    (s.sys.dev ≠ .fault → s.sys.role ≠ .mainmast → s.sys.role ≠ .solo → w.status = 0x1E ∧ w.state = s) ∧
    (s.sys.dev ≠ .fault → s.sys.role = .mainmast ∨ s.sys.role = .solo →
      (s.cfg.owner ≠ 255 → s.cfg.owner ≠ k → w.status = 0x1A ∧ w.state = s) ∧
      (s.cfg.owner = 255 ∨ s.cfg.owner = k → s.twin.joinAt = none →
        (s.cfg.pending.isSome = true → w.status = 0x1D ∧ w.state = s) ∧
        (s.cfg.pending = none →
          (lead < 1024 * 2 ^ 20 → w.status = 0x1B ∧ w.state = { s with cfg := { s.cfg with lastCommit := 3 } }) ∧
          (2 ^ 24 * 2 ^ 20 < lead → w.status = 0x1C ∧ w.state = { s with cfg := { s.cfg with lastCommit := 4 } }) ∧
          (1024 * 2 ^ 20 ≤ lead → lead ≤ 2 ^ 24 * 2 ^ 20 → w.status = 0 ∧
            w.data = leBytes 8 c ++ leBytes 8 (s.cfg.number + 1).toNat ∧
            w.state.cfg = { s.cfg with pending := some (c, s.cfg.staging), lastCommit := 1,
                                       owner := if s.cfg.owner = k then 255 else s.cfg.owner } ∧
            { w.state with cfg := s.cfg, twin := s.twin, stay := s.stay, out := s.out } = s))))

/-- R277: a session without a request for SessionTimeout closes: it is journalled with its client, and an owner's staged values
and ownership go; before that time nothing happens.
R292, R293, R295: the end of a store and of the programming of a boot image: the copy stands in the place of the one that was
not in use, or that place stays as it was, and the state objects show the outcome; the version that a failed programming leaves is a free value (log entry 6). -/
def Obligations.SessionsStoresAndImagesEnd : Prop :=
  (∀ (dt : Nat) (n : SessionId) (x : Session) (s : State),
     let u := s.elapse dt
     s.session n.val = some x →
     (1024000 * (1000000 * s.imm cSessionTimeout) ≤ (u.tb.c - x.lastC).toNat → Runs (.sessionTimeout dt n) s (fun t =>
       t.session n.val = none ∧
       (∃ e, Tab.look t.ctl.journal s.ctl.jNext = some e ∧ e.code = 0x0003 ∧ e.source = n.val ∧
         e.data = BitVec.ofNat 128 x.client.toNat) ∧
       t.cfg.owner = (if s.cfg.owner = n.val then 255 else s.cfg.owner) ∧
       t.cfg.staging = (if s.cfg.owner = n.val then ((s.cfg.pending.map Prod.snd).getD s.cfg.epoch) else s.cfg.staging) ∧
       { t.cfg with owner := s.cfg.owner, staging := s.cfg.staging } = s.cfg ∧
       { t with ctl := s.ctl, cfg := s.cfg, stat := s.stat } = u)) ∧
     ((u.tb.c - x.lastC).toNat < 1024000 * (1000000 * s.imm cSessionTimeout) → exec (.sessionTimeout dt n) s = .next u)) ∧
  (∀ (dt : Nat) (copy : StoreCopy) (cause : StoreFailure) (v : BitVec 32) (s : State),
     let u := s.elapse dt
     (s.cfg.storing = some copy →
       exec (.storeDone dt none) s = .next (({ u with cfg := { s.cfg.putStore (some copy) with storing := none, storeState := 2 } } :
         State).journal 0x0030 0xFFFF (jdata [(0, copy.generation.toNat), (8, copy.epoch.toNat)])) ∧
       exec (.storeDone dt (some cause)) s = .next (({ u with cfg := { s.cfg with storing := none, storeState := 3 } } :
         State).journal 0x0031 0xFFFF (jdata [(0, match cause with | .erase => 1 | .program => 2 | .verify => 3)]))) ∧
     (s.cfg.programming = some v →
       Runs (.bootImageProgrammed dt true) s (fun t => t.cfg.programming = none ∧ t.cfg.bootImageState = 2 ∧
         (s.cfg.activeSlot = 0 → t.cfg.versionB = v ∧ t.cfg.versionA = s.cfg.versionA) ∧
         (s.cfg.activeSlot ≠ 0 → t.cfg.versionA = v ∧ t.cfg.versionB = s.cfg.versionB) ∧ t.cfg.store0 = s.cfg.store0 ∧
         t.cfg.store1 = s.cfg.store1 ∧ { t with cfg := s.cfg } = u) ∧
       Runs (.bootImageProgrammed dt false) s (fun t => t.cfg.programming = none ∧ t.cfg.bootImageState = 3 ∧
         (s.cfg.activeSlot = 0 → t.cfg.versionA = s.cfg.versionA) ∧ (s.cfg.activeSlot ≠ 0 → t.cfg.versionB = s.cfg.versionB) ∧
         t.cfg.activeSlot = s.cfg.activeSlot)) ∧
     (s.cfg.storing = none → ∀ o, exec (.storeDone dt o) s = .next u) ∧
     (s.cfg.programming = none → ∀ ok, exec (.bootImageProgrammed dt ok) s = .next u))

/-- R27, R28, R40, R285: at its commit slice the pending set becomes the epoch set and the active set, ConfigEpoch grows by 1,
FpBankReset reads 0, and COMMIT_APPLIED is journalled with epoch and slice. RunControl 1 takes STANDSTILL to RUN, or to FENCED
in role FENCED; RunControl 0 takes RUN and FENCED to STANDSTILL. Before the slice nothing happens. -/
def Obligations.CommitsApplyAtTheirSlice : Prop :=
  ∀ (dt c : Nat) (table : Tab Nat) (s : State),
    let u := s.elapse dt
    s.cfg.pending = some (c, table) → s.sys.dev ∈ [DevState.standstill, .run, .fenced] →
    (sliceLe c u.slice = true → Runs (.commitApply dt) s (fun t =>
      (∀ k, Tab.look t.cfg.epoch k = if k = cFpBankReset.key then none else Tab.look table k) ∧ t.cfg.active = t.cfg.epoch ∧
      t.cfg.pending = none ∧ t.cfg.number = s.cfg.number + 1 ∧ t.cfg.lastCommit = 2 ∧ FlashKept s.cfg t.cfg ∧
      t.cfg.imm = s.cfg.imm ∧
      exec (.commitApply dt) s = .next (((({ u with cfg := s.cfg.applied c table (s.cfg.number + 1) } : State).journal 0x0010
        0xFFFF (jdata [(0, (s.cfg.number + 1).toNat), (8, c)])).reportAll 0 2 0x1033 (leBytes 8 (s.cfg.number + 1).toNat ++
        leBytes 8 c)).commitEffects c s.cfg.epoch t.cfg.epoch (Tab.get 0 table cFpBankReset.key) false) ∧
      t.sys.role = s.sys.role ∧
      t.sys.dev = (if Tab.get 0 table cRunControl.key = 1 then
          (if s.sys.dev = .standstill then (if s.sys.role = .fenced then .fenced else .run) else s.sys.dev)
        else .standstill) ∧ t.tb.c = u.tb.c)) ∧
    (sliceLe c u.slice = false → exec (.commitApply dt) s = .next u)

/-- R41, R296, R297: a comparison counts the bits that the shadow has corrected and each field's run of mismatches, and reports
a third in a row once as SCRUB_STUCK; the reload gives every field its epoch value and counts the fields in ScrubReloads; a repaired shadow word takes the active or the
epoch value; a TMR correction is counted. The device state does not change. -/
def Obligations.ScrubbingRestoresTheEpoch : Prop :=
  ∀ (dt k corrected : Nat) (upsets : List (Nat × Nat)) (s : State),
    let u := s.elapse dt
    Tab.sorted s.cfg.active → Tab.sorted s.cfg.epoch →
    Runs (.scrubCompare dt upsets corrected) s (fun t =>
      t.count kShadowCorrected = (s.count kShadowCorrected + corrected) % 2 ^ 32 ∧
      t.cfg.active = upsets.foldl (fun a e => Tab.set (keyDefault e.1) a e.1 e.2) s.cfg.active ∧
      (∀ j, Tab.get 0 t.cfg.mismatch j =
        if Tab.look t.cfg.active j = Tab.look s.cfg.epoch j then 0 else Tab.get 0 s.cfg.mismatch j + 1) ∧
      t.count kScrubStuck % 2 ^ 32 = (s.count kScrubStuck + t.cfg.mismatch.countP (fun e => decide (e.2 = 3))) % 2 ^ 32 ∧
      { t.cfg with active := s.cfg.active, mismatch := s.cfg.mismatch } = s.cfg ∧
      { t with cfg := s.cfg, ctl := s.ctl, stat := s.stat } = u) ∧
    Runs (.scrubReload dt) s (fun t => t.cfg = { s.cfg with active := s.cfg.epoch } ∧
      t.count kScrubReloads % 2 ^ 32 =
        (s.count kScrubReloads + (diffKeys s.cfg.active s.cfg.epoch).dedup.length) % 2 ^ 32 ∧
      (s.cfg.active = s.cfg.epoch → t = u) ∧ { t with cfg := s.cfg, ctl := s.ctl, stat := s.stat } = u) ∧
    (∀ set n, (set, n) ∈ [(ShadowSet.epoch, 0), (.staging, 1), (.pending, 2)] →
      Runs (.shadowRepair dt set k) s (fun t =>
        (set = .epoch → Tab.get (keyDefault k) t.cfg.epoch k = Tab.get (keyDefault k) s.cfg.active k ∧
          (∀ j, j ≠ k → Tab.look t.cfg.epoch j = Tab.look s.cfg.epoch j) ∧ t.cfg.staging = s.cfg.staging ∧
          t.cfg.pending = s.cfg.pending) ∧
        (set = .staging → Tab.get (keyDefault k) t.cfg.staging k = Tab.get (keyDefault k) s.cfg.epoch k ∧
          (∀ j, j ≠ k → Tab.look t.cfg.staging j = Tab.look s.cfg.staging j) ∧ t.cfg.epoch = s.cfg.epoch ∧
          t.cfg.pending = s.cfg.pending) ∧
        (set = .pending → t.cfg.staging = s.cfg.staging ∧ t.cfg.epoch = s.cfg.epoch ∧
          ∀ c table, s.cfg.pending = some (c, table) → ∃ table', t.cfg.pending = some (c, table') ∧
            Tab.get (keyDefault k) table' k = Tab.get (keyDefault k) s.cfg.epoch k ∧
            ∀ j, j ≠ k → Tab.look table' j = Tab.look table j) ∧
        t.cfg.active = s.cfg.active ∧ t.count kShadowRepairs = (s.count kShadowRepairs + 1) % 2 ^ 32 ∧
        (∃ e, Tab.look t.ctl.journal s.ctl.jNext = some e ∧ e.code = 0x0022 ∧ e.data = jdata (fieldData k ++ [(8, n)])) ∧
        t.sys = s.sys)) ∧
    exec (.tmrCorrection dt) s = .next (u.bump kTmrCorrected)

/-! ### Timebase and PTP (R46 to R61) -/

/-- R46: before C has crossed the next multiple of 2^36 a fold does nothing; at a fold cref is that multiple, b grows by f/16
exactly, and with no step due the time word is continuous across it. -/
def Obligations.FoldsKeepTimeContinuous : Prop :=
  ∀ (dt : Nat) (s : State),
    let u := s.elapse dt
    ((u.tb.c - s.tb.cref).toNat < 2 ^ 36 → exec (.fold dt) s = .next u) ∧
    (2 ^ 36 ≤ (u.tb.c - s.tb.cref).toNat → s.tb.stepTarget = none → s.tb.autoStep = none → Runs (.fold dt) s (fun t =>
      t.tb.cref = s.tb.cref + 0x1000000000#64 ∧ t.tb.b = s.tb.b + s.tb.f * 2 ^ 36 ∧ t.tb.c = u.tb.c ∧
      t.tb.tw t.tb.cref = s.tb.tw (s.tb.cref + 0x1000000000#64) ∧ t.tb.accepted = [] ∧
      { t with tb := s.tb, stat := s.stat, ctl := s.ctl, free := s.free } = { u with tb := s.tb }))

/-- R56: a fold with accepted samples loads the new rate: the integral term is bounded by 256 * MaxRate, the rate by MaxRate,
and the rate is -(Kp θ + integral) / 256 for the mean θ of the samples (its rounding where it is not whole is free, log entry
6); without a sample it keeps the rate, or takes the one that holdover or a reset has set.
R57, R58: the servo states at a fold with one accepted mean: ACQUIRING becomes LOCKED after LockCount good folds, LOCKED
falls back after four folds above four times the threshold, and RefuseLimit folds with nothing but refused samples lead to
REFUSING. -/
def Obligations.FoldsLoadTheServoRate : Prop :=
  (∀ (dt : Nat) (s : State),
     let u := s.elapse dt
     let th := roundEven s.tb.accepted.sum (2 * s.tb.accepted.length)
     let mr : Int := s.conf cServoMaxRate
     let integ := max (-(256 * mr)) (min (256 * mr) (s.tb.integ + (s.conf cServoKi : Int) * th))
     let x := -((s.conf cServoKp : Int) * th + integ)
     2 ^ 36 ≤ (u.tb.c - s.tb.cref).toNat → s.tb.stepTarget = none → s.tb.autoStep = none → Runs (.fold dt) s (fun t =>
       (s.tb.accepted ≠ [] → t.tb.integ = integ ∧ -mr ≤ t.tb.f ∧ t.tb.f ≤ mr ∧
         (∃ q : Int, |256 * q - x| < 256 ∧ (x % 256 = 0 → 256 * q = x) ∧ t.tb.f = max (-mr) (min mr q)) ∧
         t.count kTimeLastOffset = (th % 2 ^ 64).toNat) ∧
       (s.tb.accepted = [] → t.tb.integ = s.tb.integ ∧ t.tb.f = s.tb.nextF.getD s.tb.f) ∧
       t.tb.history = (t.tb.f :: s.tb.history).take 1024 ∧ t.tb.nextF = none)) ∧
  (∀ (dt : Nat) (s : State),
     let u := s.elapse dt
     let th := roundEven s.tb.accepted.sum (2 * s.tb.accepted.length)
     let lt : Int := s.conf cServoLockThreshold
     2 ^ 36 ≤ (u.tb.c - s.tb.cref).toNat → s.tb.stepTarget = none → s.tb.autoStep = none → Runs (.fold dt) s (fun t =>
       (s.tb.servo = .acquiring → s.tb.accepted ≠ [] → |th| < lt → 0 < s.conf cServoRefuseLimit →
         s.conf cServoLockCount ≤ s.tb.lockRun + 1 → t.tb.servo = .locked) ∧
       (s.tb.servo = .locked → s.tb.accepted ≠ [] → 4 * lt < |th| → 0 < s.conf cServoRefuseLimit → 3 ≤ s.tb.unlockRun →
         t.tb.servo = .acquiring) ∧
       (s.tb.servo = .acquiring ∨ s.tb.servo = .locked → s.tb.accepted = [] → 0 < s.tb.refused →
         s.conf cServoRefuseLimit ≤ s.tb.refuseRun + 1 → t.tb.servo = .refusing ∧ t.ctl.jCount = s.ctl.jCount + 1) ∧
       (s.tb.servo = .freerun ∨ s.tb.servo = .holdover → t.tb.servo = s.tb.servo)))

/-- R49, R60, R61: a manual step at a fold in STANDSTILL makes the time word the written one exactly, clears AnchorValid, counts
and empties the slice index; the anchor advances by 2^62 fu once the time is that far beyond it. -/
def Obligations.StepsAndTheAnchor : Prop :=
  ∀ (dt : Nat) (w : Tw) (s : State),
    let u := s.elapse dt
    (2 ^ 36 ≤ (u.tb.c - s.tb.cref).toNat → s.tb.stepTarget = some w → s.sys.dev = .standstill → Runs (.fold dt) s (fun t =>
      t.tb.tw t.tb.cref = w ∧ t.tb.anchorValid = false ∧ t.tb.stepTarget = none ∧ t.tb.autoStep = none ∧
      t.count kTimeStepCount = (s.count kTimeStepCount + 1) % 2 ^ 32 ∧ t.hist.index = [] ∧ t.hist.written = [] ∧
      t.hist.log = s.hist.log ∧ t.tb.c = u.tb.c)) ∧
    (s.tb.anchorValid = true → 2 ^ 62 ≤ twDiff u.now s.tb.anchorTw → Runs (.anchorAdvance dt) s (fun t =>
      t.tb.anchorTw = s.tb.anchorTw + 0x4000000000000000#64 ∧
      t.tb.anchorSec * 1000000000 + t.tb.anchorNs = s.tb.anchorSec * 1000000000 + s.tb.anchorNs + 4503599627370496 ∧
      t.tb.anchorNs < 1000000000 ∧
      { t.tb with anchorTw := s.tb.anchorTw, anchorSec := s.tb.anchorSec, anchorNs := s.tb.anchorNs } = u.tb ∧
      { t with tb := u.tb } = u)) ∧
    (s.tb.anchorValid = false ∨ twDiff u.now s.tb.anchorTw < 2 ^ 62 → exec (.anchorAdvance dt) s = .next u)

/-- R52 to R54: what the messages of one exchange leave on an enabled instance before the exchange is complete: a Sync begins a
new exchange with its timestamp; a Follow_Up and a Delay_Resp of another sequence, and an answer that is overdue by a Sync
interval, discard it; Delay_Req and Pdelay_Req keep their egress time and go out. A frame that holds no message of the instance
is dropped and counted; without link nothing arrives.
R52, R54: a peer-delay measurement, each correctionField turned into fu by itself, and the device's own answer to a
Pdelay_Req: one-step with the turnaround in correctionField (64 units to the fu). -/
def Obligations.ExchangeMessagesAreKept : Prop :=
  (∀ (dt : Nat) (e : EthId) (cap : Capture) (frame m : List Byte) (seq : BitVec 16) (s : State),
     let u := s.elapse dt
     let p := s.ethPort e
     let old : EthPort := { p with syncSeq := none, t1 := none, t2 := none, dreqSeq := none, t3 := none, t4 := none }
     let taken := fun (k : Nat) => p.link = true ∧ s.ptpMessage e [k] frame = some m ∧ ptpRateOk m = true
     let time := ptpTimeAt m 34
     let ns := ((time.sec : Int) * 1000000000 + time.ns) * 1024
     let corr := roundEven (ptpCorr m) 64
     let stamp := { old with syncSeq := some (ptpSeq m), t2 := some (u.rxStamp e cap), syncCorr := corr, syncAt := u.tb.c,
                             syncFu := intervalFu (ptpLogInterval m) }
     let overdue := (p.syncSeq ≠ none ∧ p.t1 = none ∧ p.syncFu ≤ (u.tb.c - p.syncAt).toNat) ∨
       (p.t3 ≠ none ∧ p.t4 = none ∧ p.syncFu ≤ (u.tb.c - p.dreqAt).toNat)
     (taken 0 → ptpTwoStep m = true → exec (.sync dt e cap frame) s = .next (u.setEth e stamp)) ∧
     (taken 0 → ptpTwoStep m = false → s.p2p e = false → exec (.sync dt e cap frame) s =
       .next (u.setEth e { stamp with t1 := some (ns + corr), t1time := time })) ∧
     (taken 8 → p.syncSeq ≠ some (ptpSeq m) → exec (.followUp dt e frame) s = .next (u.setEth e old)) ∧
     (taken 8 → p.syncSeq = some (ptpSeq m) → s.p2p e = false → p.t4 = none → exec (.followUp dt e frame) s =
       .next (u.setEth e { p with t1 := some (ns + corr + p.syncCorr), t1time := time })) ∧
     (taken 9 → s.p2p e = false → p.dreqSeq ≠ some (ptpSeq m) → exec (.delayResp dt e frame) s = .next (u.setEth e old)) ∧
     (s.ptpOn e = true → s.p2p e = false → p.link = true → exec (.delayReq dt e seq cap) s = .next ((u.setEth e { p with
       dreqSeq := some seq, t3 := some (u.txStamp e cap), t4 := none, dreqAt := u.tb.c }).ptpSend e false (s.delayReqMsg e seq))) ∧
     (s.ptpOn e = true → s.p2p e = true → p.link = true → exec (.pdelayReqSend dt e seq cap) s = .next ((u.setEth e { p with
       pdSeq := some seq, pd1 := some (u.txStamp e cap), pd4 := none, pdReceipt := none }).ptpSend e true (s.pdelayReqMsg e seq))) ∧
     (overdue → exec (.exchangeTimeout dt e) s = .next (u.setEth e old)) ∧
     (¬ overdue → exec (.exchangeTimeout dt e) s = .next u) ∧
     (p.link = true → s.ptpMessage e [0] frame = none →
       exec (.sync dt e cap frame) s = .next (u.bump (if e = 0 then kTimeEthDropped0 else kTimeEthDropped1))) ∧
     (p.link = false → exec (.sync dt e cap frame) s = .next u ∧ exec (.followUp dt e frame) s = .next u ∧
       exec (.delayResp dt e frame) s = .next u)) ∧
  (∀ (dt : Nat) (e : EthId) (cap txCap : Capture) (frame m : List Byte) (t1 : Tw) (s : State),
     let u := s.elapse dt
     let p := s.ethPort e
     let time := ptpTimeAt m 34
     p.link = true → ptpRateOk m = true → s.p2p e = true →
     (s.ptpMessage e [3, 10] frame = some m → p.pdSeq = some (ptpSeq m) → p.pd1 = some t1 →
       (ptpType m = 3 → ptpTwoStep m = false → Runs (.pdelayResp dt e cap frame) s (fun t =>
         (t.ethPort e).peerDelay = some (twDiff (u.rxStamp e cap) t1 - roundEven (ptpCorr m) 64) ∧ (t.ethPort e).pdSeq = none ∧
         { t with eth := s.eth } = u)) ∧
       (ptpType m = 3 → ptpTwoStep m = true → Runs (.pdelayResp dt e cap frame) s (fun t =>
         (t.ethPort e).pd4 = some (u.rxStamp e cap) ∧ (t.ethPort e).pdReceipt = some time ∧ (t.ethPort e).pdCorr = ptpCorr m ∧
         (t.ethPort e).peerDelay = p.peerDelay ∧ { t with eth := s.eth } = u)) ∧
       (∀ t4 r, ptpType m = 10 → p.pdReceipt = some r → p.pd4 = some t4 → Runs (.pdelayResp dt e cap frame) s (fun t =>
         (t.ethPort e).peerDelay = some (twDiff t4 t1 - (((time.sec : Int) * 1000000000 + time.ns) * 1024 -
           ((r.sec : Int) * 1000000000 + r.ns) * 1024) - (roundEven (ptpCorr m) 64 + roundEven p.pdCorr 64)) ∧
         { t with eth := s.eth } = u))) ∧
     (s.ptpMessage e [2] frame = some m →
       (s.conf (cEthPdelayRespMode e.val) = 1 → exec (.pdelayReq dt e cap txCap frame) s =
         .next (u.ptpSend e true (s.pdelayRespMsg e (ptpSeq m) ((m.drop 20).take 10) false ⟨0, 0⟩
           (ptpCorr m + 64 * twDiff (u.txStamp e txCap) (u.rxStamp e cap))))) ∧
       (s.conf (cEthPdelayRespMode e.val) ≠ 1 → Runs (.pdelayReq dt e cap txCap frame) s (fun t =>
         { t with out := s.out } = u ∧ t.out.length = s.out.length + 2 ∧ t.out.drop 2 = s.out))))

/-- R54, R55, R57: a completed E2E exchange forms the offset (held in half fu): (t2 - t1) - mean path - DelayAsymmetry; a P2P
exchange uses the measured peer delay. On the steering instance a sample within JumpThreshold is accepted, another is refused
and counted.
R53: a receive timestamp is the capture at a resolution of 64 fu less the receive latency of the line rate (112 ns, or 45,875 fu
at 10GBASE-R), a transmit timestamp the capture plus the transmit latency (96 ns or 32 ns); the adjustment is added, and at 10GBASE-R the
gearbox latency of the frame is compensated. Each stays an instant of the raw count until the clock turns it into a time word
(the model's choice, log entry 46). -/
def Obligations.CompletedExchangesGiveSamples : Prop :=
  (∀ (dt : Nat) (e : EthId) (frame m : List Byte) (s : State),
     let u := s.elapse dt
     let p := s.ethPort e
     let taken := fun (k : Nat) => p.link = true ∧ s.ptpMessage e [k] frame = some m ∧ ptpRateOk m = true
     let time := ptpTimeAt m 34
     let ns := ((time.sec : Int) * 1000000000 + time.ns) * 1024
     let asym := s.confInt 32 (cEthDelayAsymmetry e.val)
     let jump : Int := 1024 * s.conf cJumpThreshold
     let sampled := fun (t : State) (th : Int) =>
       (t.ethPort e).theta = some th ∧ (t.ethPort e).exchanges = p.exchanges + 1 ∧ (t.ethPort e).t1 = none ∧
       (t.ethPort e).t2 = none ∧ (t.ethPort e).t3 = none ∧ (t.ethPort e).t4 = none ∧
       (s.tb.steering = some e → p.eligible = true →
         (|th| ≤ 2 * jump → t.tb.accepted = s.tb.accepted ++ [th] ∧ t.tb.refused = s.tb.refused) ∧
         (2 * jump < |th| → t.tb.accepted = s.tb.accepted ∧ t.tb.refused = s.tb.refused + 1 ∧
           t.count kTimeJumpRefused = (s.count kTimeJumpRefused + 1) % 2 ^ 32)) ∧
       t.cfg = s.cfg ∧ t.hist = s.hist ∧ t.cores = s.cores ∧ t.tb.c = u.tb.c ∧ t.tb.f = s.tb.f
     (∀ t1 t2 t3, taken 9 → s.p2p e = false → p.dreqSeq = some (ptpSeq m) → p.t1 = some t1 → p.t2 = some t2 → p.t3 = some t3 →
       Runs (.delayResp dt e frame) s (fun t => sampled t
         (twDiff t2 (BitVec.ofInt 64 t1) - twDiff (BitVec.ofInt 64 (ns - roundEven (ptpCorr m) 64)) t3 - 2 * asym))) ∧
     (∀ t2 d, taken 8 → s.p2p e = true → p.syncSeq = some (ptpSeq m) → p.t2 = some t2 → p.peerDelay = some d →
       Runs (.followUp dt e frame) s (fun t => sampled t
         (2 * twDiff t2 (BitVec.ofInt 64 (ns + roundEven (ptpCorr m) 64 + p.syncCorr)) - d - 2 * asym)))) ∧
  (∀ (e : EthId) (cap : Capture) (s : State),
     let fine : Int := cap.sub - cap.sub % 64
     let rxAdj := s.confInt 32 (cEthRxLatencyAdj e.val)
     let txAdj := s.confInt 32 (cEthTxLatencyAdj e.val)
     (s.conf (cEthSpeed e.val) = 0 →
       s.rxStamp e cap = s.tb.tw (s.tb.c + BitVec.ofInt 64 (fine - 112 * 1024 + rxAdj)) ∧
       s.txStamp e cap = s.tb.tw (s.tb.c + BitVec.ofInt 64 (fine + 96 * 1024 + txAdj))) ∧
     (s.conf (cEthSpeed e.val) ≠ 0 →
       s.rxStamp e cap = s.tb.tw (s.tb.c + BitVec.ofInt 64 (fine - cap.gear - 45875 + rxAdj)) ∧
       s.txStamp e cap = s.tb.tw (s.tb.c + BitVec.ofInt 64 (fine + cap.gear + 32 * 1024 + txAdj))))

/-- R50, R51, R52, R55, R59: Announce, its timeout, the link and ARP. The grandmaster of the steering instance is shown; a master
is qualified by two messages within four intervals and stays so; an instance without link or without Announce is not eligible,
and without another eligible one the servo holds over at once. A port that comes up sends ESMC with QL-DNU. -/
def Obligations.MastersComeAndGo : Prop :=
  ∀ (dt : Nat) (e : EthId) (frame m who : List Byte) (s : State),
    let u := s.elapse dt
    let p := s.ethPort e
    let a := announceOf m
    let own := s.conf (cEthIpv4Address e.val)
    let asked := arpParse (ethParse frame).body = some (who, own) ∧ own ≠ 0 ∧ s.ethTagged e frame = true ∧
      (ethParse frame).kind = 0x0806
    let lost := fun (t : State) => (t.ethPort e).eligible = false ∧ (t.ethPort e).exchanges = 0 ∧ (t.ethPort e).master = none ∧
      (∀ o, o ≠ e → t.ethPort o = s.ethPort o) ∧ t.tb.c = u.tb.c ∧ t.tb.f = s.tb.f ∧
      (s.tb.steering = some e → (∀ o, o ≠ e → (s.ethPort o).eligible = false) → t.tb.steering = none ∧ t.tb.servo = .holdover)
    (p.link = true → s.ptpMessage e [11] frame = some m → ptpRateOk m = true → Runs (.announce dt e frame) s (fun t =>
      (t.ethPort e).master = some a ∧ (t.ethPort e).announces = (u.tb.c :: p.announces).take 2 ∧
      (∀ b rest, p.announces = b :: rest →
        (t.ethPort e).qual = (p.qual || decide ((u.tb.c - b).toNat ≤ 4 * a.interval))) ∧
      (∀ o, o ≠ e → t.ethPort o = s.ethPort o) ∧
      (s.tb.steering = some e → t.count kTimeGrandmasterId = a.grandmaster.toNat ∧
        t.count kTimeUtcOffset = a.utcOffset.toNat) ∧ t.tb.c = u.tb.c ∧ t.tb.f = s.tb.f)) ∧
    (p.link = true → s.ptpMessage e [11] frame = none → exec (.announce dt e frame) s = .next (u.ethDrop e)) ∧
    (∀ b rest k, p.master = some k → p.announces = b :: rest →
      s.conf (cEthAnnounceTimeout e.val) * k.interval ≤ (u.tb.c - b).toNat →
      Runs (.announceTimeout dt e) s (fun t => lost t ∧ (t.ethPort e).link = p.link)) ∧
    Runs (.ethLinkChange dt e false) s (fun t => lost t ∧ (t.ethPort e).link = false ∧ (t.ethPort e).ql = none) ∧
    Runs (.ethLinkChange dt e true) s (fun t => t.ethPort e = { p with link := true } ∧ t.out = .esmc e.val 15 :: s.out ∧
      (∀ o, o ≠ e → t.ethPort o = s.ethPort o) ∧ t.tb.c = u.tb.c) ∧
    (p.link = true → asked → exec (.arpRequest dt e frame) s =
      .next (u.emit (.arp e.val (s.conf (cEthVlanId e.val)) (arpReplyMsg e.val own who)))) ∧
    (p.link = true → (∀ x, arpParse (ethParse frame).body ≠ some (x, own)) ∨ own = 0 ∨ s.ethTagged e frame = false ∨
      (ethParse frame).kind ≠ 0x0806 → exec (.arpRequest dt e frame) s = .next (u.ethDrop e)) ∧
    exec (.ethFrameDropped dt e) s = .next (u.bump (if e = 0 then kTimeEthDropped0 else kTimeEthDropped1))

/-- R50, R51, R416: after each change of a source the first qualified of SyncE, HOLD_CLK and REFCLK drives the tick; the
counter, b, f and cref are untouched. -/
def Obligations.FirstQualifiedSourceIsUsed : Prop :=
  ∀ (dt ql : Nat) (e : EthId) (inRange : Bool) (s : State),
    let u := s.elapse dt
    let picked := fun (t : State) =>
      t.tb.source = (if t.synceQualified = true then .synce else if t.holdQualified = true then .holdClk else .refclk) ∧
      t.tb.c = u.tb.c ∧ t.tb.b = s.tb.b ∧ t.tb.f = s.tb.f ∧ t.tb.cref = s.tb.cref ∧ t.tb.servo = s.tb.servo ∧
      { t with tb := u.tb, eth := s.eth } = u
    Runs (.esmc dt e ql) s (fun t => picked t ∧ (t.ethPort e).ql = some ql ∧ (t.ethPort e).esmcAt = u.tb.c ∧
      (e = s.synceSource → t.tb.synceInRange = true) ∧ t.tb.holdInRange = s.tb.holdInRange) ∧
    (5000000 * 1024000 ≤ (u.tb.c - (s.ethPort s.synceSource).esmcAt).toNat → Runs (.esmcTimeout dt) s (fun t =>
      picked t ∧ (t.ethPort s.synceSource).ql = none ∧ t.tb.source ≠ .synce)) ∧
    Runs (.holdClkQualification dt inRange) s (fun t => picked t ∧ t.tb.holdInRange = inRange ∧ t.eth = s.eth) ∧
    Runs (.synceFrequencyOutOfRange dt) s (fun t => picked t ∧ t.tb.synceInRange = false ∧ t.tb.source ≠ .synce ∧ t.eth = s.eth)

/-! ### Pulse generators (R63 to R69) -/

/-- R65, R66, R68: the next pulse of an armed generator with one schedule fires when it is due: its number and PlsFired grow,
the state is RUNNING, or DONE after the last one, its end is due Width later, and a routed pin shows the edge at the nearest
128 fu. The end of the only pulse under way lowers the pin.
R64, R66: an Arm whose Start is less than 2 µs ahead is LATE, one more than 2^62 fu ahead TOO_FAR; Mode 0 disarms and is
always accepted; a refused arm leaves the schedules as they are and is journalled, an accepted one replaces the schedule. -/
def Obligations.PulsesFireAndEnd : Prop :=
  (∀ (dt : Nat) (n : GenId) (c : Schedule) (e : PulseEnd) (s : State),
     let u := s.elapse dt
     let g := s.gen n.val
     let at_ := pulseTime c.fields c.next
     (g.old = [] → g.current = some c → g.state = .armed ∨ g.state = .running → g.ends = [] → c.cut = none →
       pulseExists c.fields c.next = true → u.due at_ = true → s.sys.dev ≠ .fault → c.fields.routes &&& 0xE#8 = 0#8 →
       Runs (.pulseFire dt n) s (fun t =>
         (t.gen n.val).current = some { c with next := c.next + 1 } ∧
         (t.gen n.val).state = (if pulseExists c.fields (c.next + 1) = true then .running else .done) ∧
         (t.gen n.val).ends = [⟨at_ + BitVec.ofNat 64 c.fields.width.toNat, c.fields.routes.getLsbD 0, c.fields.activeLow, false⟩] ∧
         t.count (kPlsFired n.val) = (s.count (kPlsFired n.val) + 1) % 2 ^ 32 ∧
         (∃ l, (∀ o ∈ l, ∃ frame w, o = .lampFrame frame w) ∧
           t.out = l ++ (if c.fields.routes.getLsbD 0 = true then
             .pulseEdge n.val (!c.fields.activeLow) (BitVec.ofInt 64 (roundEven at_.toNat 128 * 128)) :: s.out else s.out)) ∧
         (∀ k, k ≠ n.val → t.gen k = s.gen k) ∧ t.hist = s.hist ∧ t.cfg = s.cfg ∧ t.tb = u.tb)) ∧
     (g.ends = [e] → u.due e.at_ = true → s.sys.dev ≠ .fault → e.flash = false →
       exec (.pulseEnd dt n) s = .next (if e.pin = true then
         (u.setGen n.val { g with ends := [] }).emit (.pulseEdge n.val e.activeLow (BitVec.ofInt 64 (roundEven e.at_.toNat 128 * 128)))
         else u.setGen n.val { g with ends := [] })) ∧
     (g.current = none → g.old = [] → exec (.pulseFire dt n) s = .next u) ∧ (g.ends = [] → exec (.pulseEnd dt n) s = .next u)) ∧
  (∀ (n : Nat) (f : PulseFields) (tr : Tw) (s : State),
     let d := twDiff f.start tr
     (f.mode = 0#8 → armOutcome f tr = .accepted) ∧
     (f.mode ≠ 0#8 → (d < 2048000 ↔ armOutcome f tr = .late) ∧ (2 ^ 62 < d ↔ armOutcome f tr = .tooFar)) ∧
     (armOutcome f tr = .late → s.armGen n f tr .late = (s.setGen n { s.gen n with state := .late }).journal 0x0103 0xFFFF
       (jdata [(0, n), (1, 4)])) ∧
     (armOutcome f tr = .tooFar → s.armGen n f tr .tooFar = (s.setGen n { s.gen n with state := .tooFar }).journal 0x0103
       0xFFFF (jdata [(0, n), (1, 5)])) ∧
     (f.mode ≠ 0#8 → armOutcome f tr = .accepted → ((s.armGen n f tr .accepted).gen n).current = some ⟨f, 0, none⟩ ∧
       ((s.armGen n f tr .accepted).gen n).state = .armed) ∧
     (f.mode = 0#8 → ((s.armGen n f tr .accepted).gen n).current = none ∧ ((s.armGen n f tr .accepted).gen n).state = .idle))

/-! ### Links (R73 to R105, R115, R316) -/

/-- R75: each data bit is sent XOR the scrambled bits 39 and 58 before it, with a stuff bit after every run of 11. What is sent
has no run of 12 equal bits, and a receiver in the same state recovers every data bit without a stuff error and ends in the
transmitter's state. A run of 12 or more is one stuff error and costs every further bit of it; the first bit of the other value
is delivered as a data bit. From any two states the receiver has the same state 58 delivered bits later. -/
def Obligations.ReceiverRecoversLineCode : Prop :=
  (∀ (tx : LineTx) (data : List Bool), tx.run ≤ 10 →
    let sent := tx.send data
    LineRx.receive ⟨tx.s, tx.last, tx.run⟩ sent.2 = (⟨sent.1.s, sent.1.last, sent.1.run⟩, data, 0) ∧ sent.1.run ≤ 10 ∧
    ∀ i, i + 12 ≤ sent.2.length → ¬ ((sent.2.drop i).take 12 = List.replicate 12 true ∨
      (sent.2.drop i).take 12 = List.replicate 12 false)) ∧
  (∀ (tx : LineTx) (d : Bool),
    let x := (d ^^ tx.s.getLsbD 38) ^^ tx.s.getLsbD 57
    let run := if x = tx.last then tx.run + 1 else 1
    let shifted := BitVec.ofNat 58 (2 * tx.s.toNat + bnat x)
    tx.send [d] = (if run = 11 then (⟨shifted, !x, 1⟩, [x, !x]) else (⟨shifted, x, run⟩, [x]))) ∧
  (∀ (r : LineRx) (w : Bool), r.run ≤ 10 → r.receive [w] = (⟨BitVec.ofNat 58 (2 * r.s.toNat + bnat w), w,
    if w = r.last then r.run + 1 else 1⟩, [(w ^^ r.s.getLsbD 38) ^^ r.s.getLsbD 57], 0)) ∧
  (∀ (r : LineRx) (n : Nat), r.run = 11 →
    r.receive [!r.last] = (⟨r.s, !r.last, 1⟩, [], 0) ∧
    r.receive (List.replicate (n + 1) r.last ++ [!r.last]) = (⟨BitVec.ofNat 58 (2 * r.s.toNat + bnat (!r.last)), !r.last, 1⟩,
      [((!r.last) ^^ r.s.getLsbD 38) ^^ r.s.getLsbD 57], 1)) ∧
  (∀ (a b : LineRx) (wire : List Bool), a.last = b.last → a.run = b.run → 58 ≤ (a.receive wire).2.1.length →
    (a.receive wire).1 = (b.receive wire).1)

/-- R76 to R79, R85, R86, R90, R101, R109: each DOWNLINK_FRAME of a port that sends puts one frame on the wire, which a receiver
in step decodes to its marker, sequence, type, 32 words and CRC, and the sequence grows by 1: TRAIN and CAP frames in bring-up;
in service word 0 is a marker every MarkerInterval frames, commands follow, and BUSY is the flag. -/
def Obligations.DownlinkFramesByState : Prop :=
  ∀ (dt sub : Nat) (p : PortId) (s : State),
    let u := s.elapse dt
    let x := s.port p.val
    let sends := fun (flag : Bool) (kind : Nat) (words : List Word) (t : State) =>
      ∃ wire, t.out = .downlink p.val wire :: s.out ∧
        (LineRx.receive ⟨x.tx.s, x.tx.last, x.tx.run⟩ wire).2 = (bitsMsb 16 0xE4B1 ++ bitsMsb 10 x.txSeq.toNat ++
          bitsMsb 6 (bnat flag * 32 + kind) ++ words.flatMap (fun w => bitsMsb 64 w.toNat) ++
          bitsMsb 32 (frameCrc x.txSeq (bnat flag * 32 + kind) words).toNat, 0)
    let next := fun (t : State) => (t.port p.val).txSeq = x.txSeq + 1 ∧ (∀ q, q ≠ p.val → t.port q = s.port q) ∧
      { t with ports := s.ports, out := s.out } = u
    s.sys.dev ≠ .fault → x.tx.run ≤ 10 →
    (x.st = .disabled ∨ x.st = .deep → exec (.downlinkFrame dt (.port p) sub) s = .next u) ∧
    (x.st = .detect ∨ x.st = .train ∨ (x.st = .lock ∧ x.realign = false) → x.own = [] →
      Runs (.downlinkFrame dt (.port p) sub) s (fun t =>
      sends false 2 (List.replicate 32 0#64) t ∧ next t ∧ (t.port p.val).st = x.st)) ∧
    (x.st = .exchange → x.capOk = false → Runs (.downlinkFrame dt (.port p) sub) s (fun t =>
      sends false 3 (capWords p.val ++ List.replicate 29 0#64) t ∧ next t ∧ (t.port p.val).capsSent = x.capsSent + 1)) ∧
    (x.st = .active → x.commands = [] → x.own = [] → Runs (.downlinkFrame dt (.port p) sub) s (fun t =>
      let marked := x.txSeq.toNat % s.conf cMarkerInterval = 0
      sends (decide (2 ≤ s.hist.reef) || decide (s.sys.dev = .standstill)) 0
        (if marked then markerWord x.markerNo (u.nowAt sub) :: List.replicate 31 0#64 else List.replicate 32 0#64) t ∧ next t ∧
      (t.port p.val).markerNo = (if marked then x.markerNo + 1 else x.markerNo) ∧
      (t.port p.val).busy = (decide (2 ≤ s.hist.reef) || decide (s.sys.dev = .standstill))))

/-- R86, R87, R104: bring-up of a lane: energy leads to TRAIN, a frequency within 200 ppm to LOCK; a failure (the frequency, a
timeout, a loss of signal) leads back to DETECT, or to QUARANTINE after BringUpRetries failures in a row.
R75, R86, R88: in LOCK without realignment every good frame of any kind adds to the run, the fourth in a row leads to
EXCHANGE, and a bad one begins the run anew. The frame is what the receiver of R75 delivers from the wire; one of a reserved
kind also adds to ProtocolErrors (R80). -/
def Obligations.BringUpAdvancesOrFails : Prop :=
  (∀ (dt sub : Nat) (l : Lane) (ppm : Int) (i : Instr) (s : State),
     let u := s.elapse dt
     let x := s.lane l
     let rest := fun (t : State) => (∀ o, o ≠ l → t.lane o = s.lane o) ∧ t.cfg = s.cfg ∧ t.hist = s.hist ∧ t.cores = s.cores ∧
       t.tb = u.tb ∧ t.out = s.out
     (x.st = .detect → Runs (.detectEnergy dt l) s (fun t =>
       t.lane l = { x with st := .train, since := u.tb.c, goodRun := 0, badMarkers := 0 } ∧ rest t)) ∧
     (x.st = .train → |ppm| ≤ 200 → Runs (.cdrLock dt l ppm) s (fun t =>
       t.lane l = { x with st := .lock, since := u.tb.c, goodRun := 0, badMarkers := 0, realign := false, bitsSince := 0 } ∧
       rest t)) ∧
     ((x.st = .train ∧ 200 < |ppm| ∧ i = .cdrLock dt l ppm) ∨
      (x.st ∈ [LinkState.train, .lock, .exchange] ∧ i = .signalLoss dt l sub) ∨
      (∃ us, (x.st, us) ∈ [(LinkState.train, s.conf cTrainTimeout), (.lock, s.conf cLockTimeout),
         (.exchange, s.conf cExchangeTimeout)] ∧ us * 1024000 ≤ (u.tb.c - x.since).toNat ∧ i = .bringupTimeout dt l) ∨
      (x.st = .idle ∧ x.goodRun < 4 ∧ ∃ p : PortId, l = .port p ∧ i = .idleExitTimeout dt p) →
       Runs i s (fun t => rest t ∧ (t.lane l).since = u.tb.c ∧
         (t.lane l).st = (if s.conf cBringUpRetries ≤ x.fails + 1 then .quarantine else .detect) ∧
         (t.lane l).fails = (if s.conf cBringUpRetries ≤ x.fails + 1 then 0 else x.fails + 1) ∧
         ∀ p : PortId, l = .port p → (t.lane l).timing.ds = .none ∧
           t.count (kPortBringUpFailures p.val) = (s.count (kPortBringUpFailures p.val) + 1) % 2 ^ 32))) ∧
  (∀ (dt sub : Nat) (l : Lane) (p : PortId) (wire : List Bool) (echoes : List EchoCapture) (i : Instr) (lane : Lane)
     (own : Nat → Bool) (s : State),
     (i, lane, own) = (Instr.uplinkTrain dt l sub wire, l, (· == 2)) ∨ (i, lane, own) = (.uplinkCap dt l sub wire, l, (· == 3)) ∨
       (i, lane, own) = (.uplinkFill dt l sub wire, l, (· == 0)) ∨
       (i, lane, own) = (.uplinkData dt p sub wire echoes, .port p, (· == 1)) ∨
       (i, lane, own) = (.reservedKindFrame dt l sub wire, l, fun n => decide (4 ≤ n)) →
     let r := LineRx.receive (s.lane lane).rx wire
     let f := frameOf r.2.1 r.2.2
     let x := { s.lane lane with rx := r.1 }
     let reserved := frameSound f = true ∧ 4 ≤ f.kind.toNat
     x.st = .lock → x.realign = false → (frameSound f = true → own f.kind.toNat = true) → Runs i s (fun t =>
       (frameSound f = false → t.lane lane = { x with goodRun := 0, bitsSince := x.bitsSince + f.bits }) ∧
       (frameSound f = true → x.goodRun < 3 →
         t.lane lane = { x with goodRun := x.goodRun + 1, bitsSince := x.bitsSince + f.bits }) ∧
       (frameSound f = true → 3 ≤ x.goodRun → (t.lane lane).st = .exchange ∧ (t.lane lane).txSeq = 0#10 ∧
         (t.lane lane).capsSent = 0 ∧ (t.lane lane).capOk = false ∧ (t.lane lane).lastSeq = some f.seq) ∧
       (∀ o, o ≠ lane → t.lane o = s.lane o) ∧
       (reserved → t.count (kPortProtocolErrors (laneNum lane)) = (s.count (kPortProtocolErrors (laneNum lane)) + 1) % 2 ^ 32) ∧
       (¬ reserved → ∀ k, t.count k % 2 ^ 32 = s.count k % 2 ^ 32) ∧
       { t.twin with lastRx := s.twin.lastRx } = s.twin ∧
       { t with ports := s.ports, stay := s.stay, stat := s.stat, twin := s.twin } = s.elapse dt))

/-- R90 to R92, R98, R109, R116: a good CAP frame in EXCHANGE of a port: a refusal shows its code and is a bring-up failure; an
accepted capability is stored, a version 1 partner having no flags and a BUSY response of 1,000 ticks; after three CAP frames
sent the port is ACTIVE, with its timing in ACQUIRING or FIXED and the start slice where the unit decides. A failed frame only
takes the next sequence (R89). -/
def Obligations.CapabilitiesAreTaken : Prop :=
  ∀ (dt sub : Nat) (p : PortId) (wire : List Bool) (s : State),
    let u := s.elapse dt
    let r := LineRx.receive (s.port p.val).rx wire
    let f := frameOf r.2.1 r.2.2
    let x := { s.port p.val with rx := r.1 }
    let w := fun i => f.words.getD i 0#64
    x.st = .exchange →
    (frameSound f = false → Runs (.uplinkCap dt (.port p) sub wire) s (fun t =>
      t.port p.val = { x with lastSeq := x.lastSeq.map (· + 1) } ∧ (∀ q, q ≠ p.val → t.port q = s.port q) ∧
      { t with ports := s.ports } = u)) ∧
    (∀ code, frameGood f 3 = true → capRefusal f.words = some code → Runs (.uplinkCap dt (.port p) sub wire) s (fun t =>
      t.count (kPortCapRefused p.val) = code ∧
      (t.port p.val).st = (if s.conf cBringUpRetries ≤ x.fails + 1 then .quarantine else .detect))) ∧
    (frameGood f 3 = true → capRefusal f.words = none → Runs (.uplinkCap dt (.port p) sub wire) s (fun t =>
      t.count (kPortCapRefused p.val) = 0 ∧ (t.port p.val).capOk = true ∧ (t.port p.val).lastSeq = some f.seq ∧
      (t.port p.val).version = ((w 0).extractLsb' 54 4).toNat ∧ (t.port p.val).channels = ((w 0).extractLsb' 41 13).toNat ∧
      (t.port p.val).turnaround = ((w 1).extractLsb' 34 24).toNat ∧
      (t.port p.val).busyResponse = (if ((w 0).extractLsb' 54 4).toNat = 1 then 1000 else ((w 1).extractLsb' 18 16).toNat) ∧
      (((w 0).extractLsb' 54 4).toNat = 1 → (t.port p.val).flags = 0) ∧
      (t.port p.val).ident = ((w 2).extractLsb' 0 58).setWidth 64 ∧
      (x.capsSent < 3 → (t.port p.val).st = .exchange) ∧
      (3 ≤ x.capsSent → (t.port p.val).st = .active ∧ (t.port p.val).fails = 0 ∧
        (t.port p.val).timing.ds = (if s.conf (cPortDelayMode p.val) = 1 then .fixed else .acquiring) ∧
        (s.decides = true → (t.port p.val).start = some (roundUpSlice (u.now + 0x4000000#64)))) ∧
      (∀ q, q ≠ p.val → t.port q = s.port q) ∧ t.cfg = s.cfg ∧ t.hist = s.hist))

/-- R35, R79, R80, R82, R88, R92: frames on an ACTIVE port: a good FILL or TRAIN frame counts, ends a
packet and takes the next frame count, a reserved kind and a CAP frame add a protocol error, and a failed frame is counted once
with its 33 units lost under LINK_CRC or STUFF_ERR. The frame is what the receiver delivers from the wire.
R81, R82, R88, R102, R117: a good DATA frame on an ACTIVE port that no delay step keeps waiting is counted, its words act in
order with the frame's arrival time, and the frame count follows. Signal loss in ACTIVE costs one frame and leads to DETECT. -/
def Obligations.ActiveFramesAreCounted : Prop :=
  (∀ (dt sub : Nat) (p : PortId) (wire : List Bool) (echoes : List EchoCapture) (i : Instr) (err : Nat) (s : State),
     let x := s.port p.val
     let r := LineRx.receive x.rx wire
     let f := frameOf r.2.1 r.2.2
     let broken := bnat x.packet.isSome
     x.st = .active →
     ((i = .uplinkTrain dt (.port p) sub wire ∧ f.kind.toNat = 2 ∧ err = 0) ∨
         (i = .uplinkFill dt (.port p) sub wire ∧ f.kind.toNat = 0 ∧ err = 0) ∨
         (i = .uplinkCap dt (.port p) sub wire ∧ f.kind.toNat = 3 ∧ err = 1) ∨
         (i = .reservedKindFrame dt (.port p) sub wire ∧ 4 ≤ f.kind.toNat ∧ err = 1) →
       frameSound f = true → Runs i s (fun t =>
         t.count (kPortFramesGood p.val) = (s.count (kPortFramesGood p.val) + 1) % 2 ^ 64 ∧
         t.count (kPortProtocolErrors p.val) % 2 ^ 32 = (s.count (kPortProtocolErrors p.val) + broken + err) % 2 ^ 32 ∧
         (t.port p.val).packet = none ∧ (t.port p.val).lastSeq = some f.seq ∧
         (∀ q, q ≠ p.val → t.port q = s.port q) ∧ t.hist = s.hist ∧ t.cfg = s.cfg ∧ t.trig = s.trig ∧ t.cores = s.cores)) ∧
     (i ∈ [Instr.uplinkTrain dt (.port p) sub wire, .uplinkFill dt (.port p) sub wire, .uplinkCap dt (.port p) sub wire,
         .uplinkData dt p sub wire echoes, .reservedKindFrame dt (.port p) sub wire] →
       frameSound f = false → Runs i s (fun t =>
         t.count (kPortFramesGood p.val) = s.count (kPortFramesGood p.val) ∧ (t.port p.val).packet = none ∧
         (f.stuffError = true →
           t.count (kPortFramesStuff p.val) = (s.count (kPortFramesStuff p.val) + 1) % 2 ^ 32 ∧
           t.count (kLossCounters 1) = (s.count (kLossCounters 1) + 33) % 2 ^ 64 ∧
           t.count (kLossCounters 0) = s.count (kLossCounters 0)) ∧
         (f.stuffError = false →
           t.count (kPortFramesCrc p.val) = (s.count (kPortFramesCrc p.val) + 1) % 2 ^ 32 ∧
           t.count (kLossCounters 0) = (s.count (kLossCounters 0) + 33) % 2 ^ 64 ∧
           t.count (kLossCounters 1) = s.count (kLossCounters 1)) ∧
         (∀ q, q ≠ p.val → t.port q = s.port q) ∧ t.cfg = s.cfg ∧ t.trig = s.trig))) ∧
  (∀ (dt sub : Nat) (p : PortId) (wire : List Bool) (echoes : List EchoCapture) (s : State),
     let u := s.elapse dt
     let r := LineRx.receive (s.port p.val).rx wire
     let f := frameOf r.2.1 r.2.2
     let v := ((u.setPort p.val { s.port p.val with rx := r.1 }).goodFrame p.val f).busyCheck p.val (u.nowAt sub) wire.length f.words
     (s.port p.val).st = .active →
     (frameGood f 1 = true → (v.port p.val).timing.waiting = none → exec (.uplinkData dt p sub wire echoes) s =
       .next ((v.dataWords p.val (u.nowAt sub) f.words echoes).endFrame p.val)) ∧
     Runs (.signalLoss dt (.port p) sub) s (fun t => (t.port p.val).st = .detect ∧ (t.port p.val).packet = none ∧
       t.count (kPortFramesCrc p.val) = (s.count (kPortFramesCrc p.val) + 1) % 2 ^ 32 ∧
       t.count (kLossCounters 0) = (s.count (kLossCounters 0) + 33) % 2 ^ 64 ∧ (∀ q, q ≠ p.val → t.port q = s.port q)))

/-- R34, R35, R120 to R123, R127, R131, R134: a hit word of a port in service with a delay: an unknown channel and a time outside
the horizon are lost under HORIZON, a masked channel is discarded, an accepted hit stands in the bucket of its slice before its
seal, and counts once as STRAGGLER at or after it.
R119: the provisional time of a local time is the one time whose local time at the partner has these 37 bits and that lies
nearest to the frame's arrival less the delay. -/
def Obligations.HitWordsAreAcceptedOrCounted : Prop :=
  (∀ (p : PortId) (w : Word) (ta : Tw) (da : Int) (s : State),
     let x := s.port p.val
     let chan := (w.extractLsb' 49 12).toNat
     let tp := extend ta da ((w.extractLsb' 25 24).toNat * 8192 + (w.extractLsb' 12 13).toNat)
     let e := s.confAt (sliceOf tp) ⟨chanKey p.val chan, 0⟩
     let t := tp + BitVec.ofInt 64 ((BitVec.ofNat 24 e).toInt)
     let n := sliceOf t
     let h : Hit := ⟨t, p.val, chan, 0#4, (w.extractLsb' 0 12).setWidth 20, s.hist.arrivals⟩
     let v := s.hitWord p.val w ta
     let known := s.sys.dev = .run ∧ x.timing.da = some da ∧ x.timing.missing = false
     let serving := known ∧ chan < x.channels ∧ e.testBit 31 = false ∧ (∃ m, x.start = some m ∧ before tp (sliceStart m) = false) ∧
       x.disableAt = none
     let inside := -((max (s.confAt (sliceOf tp) cAcceptPast) 129 : Nat) : Int) * 2 ^ 20 ≤ twDiff t ta ∧ twDiff t ta < (s.confAt (sliceOf tp) cAcceptFuture : Int) * 2 ^ 20
     (known → x.channels ≤ chan → v.count (kLossCounters 2) = (s.count (kLossCounters 2) + 1) % 2 ^ 64 ∧
       v.count (kPortChannelUnknown p.val) = (s.count (kPortChannelUnknown p.val) + 1) % 2 ^ 32 ∧ v.hist.buckets = s.hist.buckets) ∧
     (known → chan < x.channels → e.testBit 31 = true → v = s.bump (kPortMaskedDiscard p.val)) ∧
     (serving → ¬ inside → v.count (kLossCounters 2) = (s.count (kLossCounters 2) + 1) % 2 ^ 64 ∧
       v.hist.buckets = s.hist.buckets) ∧
     (serving → inside → s.inRun n = true →
       (sliceLt n s.hist.nextClose = false → before ta (s.sealOf n) = true → Tab.look s.hist.full n = none → s.hist.pages < 8192 →
         Tab.get [] v.hist.buckets n = Tab.get [] s.hist.buckets n ++ [h] ∧
         (∀ m, m ≠ n → Tab.get [] v.hist.buckets m = Tab.get [] s.hist.buckets m) ∧ v.stat = s.stat) ∧
       (before ta (s.sealOf n) = false → v.count (kLossCounters 3) = (s.count (kLossCounters 3) + 1) % 2 ^ 64 ∧
         Tab.get 0 v.hist.stragglers n = Tab.get 0 s.hist.stragglers n + 1 ∧ v.hist.buckets = s.hist.buckets))) ∧
  (∀ (ta : Tw) (da : Int) (l : Nat), l < 2 ^ 37 →
     let d := BitVec.ofInt 64 (roundEven da 16)
     let tp := extend ta da l
     (tp - d).setWidth 37 = BitVec.ofNat 37 l ∧ -(2 ^ 36) ≤ (tp - d - (ta - d)).toInt ∧ (tp - d - (ta - d)).toInt < 2 ^ 36)

/-- R93, R94, R105, R115: the power-down of a lane group 10 µs after DEEP_ENTER, its return to DETECT, the end of a quarantine,
and the phase code read at a tick, whose change adds to the phase sum unless the port is in HOLD. -/
def Obligations.LaneGroupsAndQuarantine : Prop :=
  ∀ (dt : Nat) (p : PortId) (lg : CoreId) (code : BitVec 7) (s : State),
    let u := s.elapse dt
    let x := s.port p.val
    ((s.group lg.val).phase = 1 → 10240000 ≤ (u.tb.c - (s.group lg.val).since).toNat →
      (∀ q, q / 8 = lg.val → (s.port q).disableAt = none) → Runs (.deepPowerDown dt lg) s (fun t =>
      (t.group lg.val).phase = 2 ∧ (∀ g, g ≠ lg.val → t.group g = s.group g) ∧
      (∀ q, q / 8 = lg.val → (t.port q).st = (if (s.port q).st = .disabled then .disabled else .deep)) ∧
      (∀ q, q / 8 ≠ lg.val → t.port q = s.port q) ∧ t.cfg = s.cfg ∧ t.hist = s.hist)) ∧
    ((s.group lg.val).phase = 3 → Runs (.laneGroupPllLock dt lg) s (fun t =>
      (t.group lg.val).phase = 0 ∧ (∀ g, g ≠ lg.val → t.group g = s.group g) ∧
      (∀ q, q / 8 = lg.val → (t.port q).st = (if s.portEnabled q = true ∧ (s.port q).st = .deep then .detect else (s.port q).st)) ∧
      (∀ q, q / 8 ≠ lg.val → t.port q = s.port q) ∧ { t with groups := s.groups, ports := s.ports } = u)) ∧
    (x.st = .quarantine → s.conf cQuarantineHold ≠ 0 →
      s.conf cQuarantineHold * 1000000 * 1024000 ≤ (u.tb.c - x.since).toNat →
      Runs (.quarantineHoldExpiry dt (.port p)) s (fun t => (t.port p.val).st = .detect ∧ (∀ q, q ≠ p.val → t.port q = s.port q) ∧
        t.cfg = s.cfg ∧ t.hist = s.hist)) ∧
    (x.st = .quarantine → s.conf cQuarantineHold = 0 → exec (.quarantineHoldExpiry dt (.port p)) s = .next u) ∧
    (∀ old, x.timing.lastCode = some old → Runs (.phaseInterpolatorRead dt p code) s (fun t =>
      (t.port p.val).timing.lastCode = some code ∧
      (t.port p.val).timing.phi = (if x.timing.ds = .hold then x.timing.phi else x.timing.phi + (code - old).toInt) ∧
      { (t.port p.val) with timing := x.timing } = x ∧ (∀ q, q ≠ p.val → t.port q = s.port q) ∧
      { t with ports := s.ports } = u))

/-! ### Slices, triggers and records (R22, R130 to R185) -/

/-- R99, R130, R135, R149 to R151, R153, R328: SLICE_SEAL seals the next slice at its seal time, at which ports that wait for it
are disabled; a deciding unit takes the level of the highest condition that holds, or goes down one step after ReefHold clear
seals, and sends SLICE to its partner.
STRAGGLER_COUNT_FINAL writes the count of the next slice into its index entry; LOSS_LOG_WRITE appends an entry for each
aggregate up to the limit, then one for the rest. -/
def Obligations.SlicesSealInTurn : Prop :=
  ∀ (dt n : Nat) (s : State),
    let u := s.elapse dt
    let a := sliceStart (n + 1 + s.confAt n cSealDelay)
    let at_ := match s.hist.lastSeal with
      | none => a
      | some p => if before a (p + 0x80000#64) then p + 0x80000#64 else a
    let low := fun o => decide (u.headroom < s.confAt n o * 1048576)
    let fill := fun o => decide (s.confAt n o * 33554432 ≤ 100 * s.mergeFill)
    let want := if low cReef3Headroom || fill cReef3Merge then 3
      else if low cReef2Headroom || fill cReef2Merge || s.fpFilled n (s.confAt n cReef2FpQueue) then 2
      else if low cReef1Headroom then 1 else 0
    let falls := u.reefClear n s.hist.reef && decide (s.confAt n cReefHold ≤ s.hist.clearRun + 1)
    let level := if s.decides then (if s.hist.reef ≤ want then want else if falls then s.hist.reef - 1 else s.hist.reef)
      else s.hist.reef
    let k := s.hist.nextFinal
    let losses := s.hist.losses
    let limit := s.conf cLossLogLimit
    let ring := if s.count kHbmDegraded = 1 then 4194304 else 8388608
    let slot := if s.count kHbmDegraded = 1 then k % 16777216 else k % 33554432
    let place := fun i => if i = 0 then s.hist.lossHead else (s.hist.lossHead + i) % ring
    let msg := StayMsg.slice n level (s.forwardList n) s.twin.placed
    (s.hist.nextSeal = some n → Tab.look s.hist.seals n = none → s.runHas n = true → notAfter at_ u.now = true →
      Runs (.sliceSeal dt) s (fun t =>
        t.hist.nextSeal = some (sliceAdd n 1) ∧ t.hist.lastSeal = some at_ ∧ Tab.look t.hist.seals n = some at_ ∧
        t.hist.reef = level ∧ (s.decides = true → Tab.look t.hist.decided n = some level) ∧ t.twin.placed = [] ∧
        { t.hist with seals := s.hist.seals, lastSeal := s.hist.lastSeal, nextSeal := s.hist.nextSeal, reef := s.hist.reef,
                      clearRun := s.hist.clearRun, decided := s.hist.decided } = s.hist ∧
        (s.forwards = true → s.stayUp = true →
          ∃ sent, (∀ o ∈ sent, ∃ lane wire, o = .downlink lane wire ∧ 192 ≤ lane) ∧ t.out = sent ++ .stay
            (s.twin.msgNo + BitVec.ofNat 32 (payloadParts msg.payload.length msg.payload).length) msg :: s.out) ∧
        (∀ p : PortId, (∃ e ∈ s.ports, e.1 = p.val ∧ e.2.disableAt = some n) →
          (t.port p.val).st = .disabled ∧ (t.port p.val).start = none) ∧
        ((∀ e ∈ s.ports, e.2.disableAt ≠ some n) → t.ports = s.ports) ∧
        t.cfg = s.cfg ∧ t.trig = s.trig ∧ t.cores = s.cores ∧ t.host = s.host ∧ t.tb = u.tb)) ∧
    (s.hist.nextSeal = some n → notAfter (s.sealOf n) u.now = false → exec (.sliceSeal dt) s = .next u) ∧
    (sliceLt k s.hist.nextIndex = true → notAfter (sliceStart (k + 1 + max (s.confAt k cAcceptPast) 129)) u.now = true →
      Runs (.stragglerCountFinal dt) s (fun t =>
        t.hist.nextFinal = sliceAdd k 1 ∧ Tab.get 0 t.hist.stragglers k = 0 ∧
        (∀ e, Tab.look s.hist.index slot = some e → e.slice = k → Tab.look t.hist.index slot =
          some { e with stragglers := min (Tab.get 0 s.hist.stragglers k) 65535 }) ∧
        (∀ j, j ≠ slot → Tab.look t.hist.index j = Tab.look s.hist.index j) ∧
        { t with hist := { t.hist with index := s.hist.index, stragglers := s.hist.stragglers, nextFinal := k } } = u)) ∧
    (losses ≠ [] → sliceLt s.hist.lossSlice u.slice = true → limit < ring → Runs (.lossLogWrite dt) s (fun t =>
      t.hist.losses = [] ∧
      (∀ i, i < limit → ∀ e, losses[i]? = some e → Tab.get 0#128 t.hist.lossLog (place i) =
        lossEntry (e.1 / 1048576) (e.1 / 65536 % 16) (e.1 % 65536) e.2) ∧
      (limit < losses.length → Tab.get 0#128 t.hist.lossLog (place limit) =
          lossEntry s.hist.lossSlice 0 0xFFFF ((List.drop limit losses).map Prod.snd).sum ∧
        t.count kLossLogOverflow = (s.count kLossLogOverflow + 1) % 2 ^ 32) ∧
      (losses.length ≤ limit → t.stat = s.stat) ∧
      { t with hist := { t.hist with losses := losses, lossLog := s.hist.lossLog, lossHead := s.hist.lossHead },
               stat := s.stat } = u))

/-- R127, R132, R137, R140, R144, R148, R151, R332, R22, R176: at its close a slice whose level is known is written: its hits, sorted by
time, port, channel and arrival, stand at the head of the log as log words, and its index entry carries their CRC-64; or it is
dropped and its hits are lost as REEF3_SLICE. SLICE_INDEXED puts the entry into the index, and a record that it completes takes
the next record sequence number. -/
def Obligations.SlicesCloseIntoTheLog : Prop :=
  ∀ (dt level corrected : Nat) (bad : List Nat) (e : IndexEntry) (k : ClassId) (s : State),
    let u := s.elapse dt
    let n := s.hist.nextClose
    let hits := Tab.get [] s.hist.buckets n
    let known := u.closeDue n = true ∧ (Tab.look s.hist.decided n = some level ∨ (Tab.look s.hist.decided n = none ∧
      ∃ fwd pl, Tab.look s.twin.slices n = some (level, fwd, pl)))
    let fits := level < 3 ∧ Tab.look s.hist.full n = none ∧ 8 * hits.length ≤ u.headroom
    let m := s.hist.nextIndex
    let slot := if s.count kHbmDegraded = 1 then m % 16777216 else m % 33554432
    (known → fits → hits.length + 31 ≤ s.logWords → Runs (.sliceClose dt corrected bad) s (fun t =>
      ∃ (l : List Hit) (x : IndexEntry), l.Perm hits ∧
        l.Pairwise (fun g h => g.key < h.key ∨ (g.key = h.key ∧ g.order ≤ h.order)) ∧
        (∀ (i : Nat) (h : Hit), l[i]? = some h → Tab.get 0#64 t.hist.log ((s.hist.head + i) % s.logWords) = h.word) ∧
        t.hist.head = s.hist.head + l.length ∧ t.hist.nextClose = sliceAdd n 1 ∧ Tab.look t.hist.written n = some x ∧
        x.slice = n ∧ x.epoch = (s.epochAt n).setWidth 16 ∧ x.first = s.hist.head ∧ x.level = level ∧ x.dropped = false ∧
        x.hits = l.length ∧ x.words = l.length ∧ x.stragglers = 0 ∧
        (x.poison = true ↔ ∃ b ∈ bad, b < l.length) ∧
        x.digest = crc64 (l.flatMap (fun h => wordBytes h.word) ++ (leBytes 6 n ++ leBytes 2 x.epoch.toNat) ++ [x.flags] ++
          leBytes 4 l.length) ∧
        t.hist.index = s.hist.index ∧ t.cfg = s.cfg ∧ t.tb = u.tb)) ∧
    (known → ¬ fits → Runs (.sliceClose dt corrected bad) s (fun t =>
      ∃ x : IndexEntry, Tab.look t.hist.written n = some x ∧ x.slice = n ∧ x.level = level ∧ x.dropped = true ∧ x.words = 0 ∧
        x.hits = (Tab.look s.hist.full n).getD hits.length ∧ t.hist.log = s.hist.log ∧ t.hist.head = s.hist.head ∧
        t.hist.nextClose = sliceAdd n 1 ∧
        t.count (kLossCounters 6) % 2 ^ 64 =
          (s.count (kLossCounters 6) + if Tab.look s.hist.full n = none then hits.length else 0) % 2 ^ 64 ∧
        t.hist.index = s.hist.index ∧ t.cfg = s.cfg ∧ t.tb = u.tb)) ∧
    (u.closeDue n = false → exec (.sliceClose dt corrected bad) s = .next u) ∧
    (Tab.look s.hist.written m = some e → Runs (.sliceIndexed dt) s (fun t =>
      Tab.look t.hist.index slot = some e ∧ t.hist.newest = m ∧ t.hist.nextIndex = sliceAdd m 1 ∧
      Tab.look t.hist.written m = none ∧ Tab.look t.hist.buckets m = none ∧
      (∀ j, j ≠ slot → Tab.look t.hist.index j = Tab.look s.hist.index j) ∧ t.hist.log = s.hist.log ∧
      t.hist.head = s.hist.head ∧ t.cfg = s.cfg ∧ t.tb = u.tb ∧
      (∀ x c, s.trig.contexts = [(x, c)] → s.trig.refused = [] → c.closable m = true → c.continues = false → c.cls = k.val →
        t.trig.recordSeq = s.trig.recordSeq + 1 ∧ t.trig.contexts = [] ∧
        t.count (kClsRecordsClosed k.val) = (s.count (kClsRecordsClosed k.val) + 1) % 2 ^ 64) ∧
      ((∀ c ∈ s.trig.contexts, c.2.closable m = false) → s.trig.refused = [] → t.trig.recordSeq = s.trig.recordSeq)))

/-- R164 to R166, R168, R172 to R175: a window is refused as BAD_WINDOW or TOO_OLD, or placed against the latest window of its
class: OUT_OF_ORDER before it, ABSORBED in it, MERGED within its gap while it is open, TRIMMED behind a closed one, OPENED
elsewhere. An alert datagram is dropped, refused by the first check that fails, or bound; a mizzen only counts it. Its checks use
the configuration in force at its receive timestamp; one that binds to a slice already sealed is forwarded at once (log entry
23). -/
def Obligations.TriggersArePlaced : Prop :=
  ∀ (dt n oldest rank : Nat) (e : EthId) (cap : Capture) (frame d : List Byte) (g : Trig) (l : Latest) (s : State),
    let k := s.cls g.cls
    let r := s.place n oldest rank g
    let gap := BitVec.ofNat 64 (s.confAt n (cClsMergeGap g.cls))
    let valid := windowValid n g = true ∧ s.windowOld oldest g = false
    let x := lowestFree 0 s.trig.contexts
    let opened := fun (o : Outcome) (ws : Tw) => r.2 = (o, k.next) ∧
      (∃ c, Tab.look r.1.trig.contexts x = some c ∧ c.cls = g.cls ∧ c.wstart = ws ∧ c.wend = g.wend ∧ c.number = k.next ∧
        c.count = 1 ∧ c.trig = g ∧ c.pin = s.firstWord (sliceOf ws) ∧ c.binding = n) ∧
      (r.1.cls g.cls).latest = some ⟨ws, g.wend, some x, k.next⟩ ∧ (r.1.cls g.cls).next = k.next + 1 ∧
      (∀ y, y ≠ x → Tab.look r.1.trig.contexts y = Tab.look s.trig.contexts y) ∧ r.1.hist = s.hist ∧ r.1.stat = s.stat
    let u := s.elapse dt
    let tr := u.rxStamp e cap
    let na := sliceOf tr
    let slot := leAt d 3 1
    let ev := u.ofPtp (beAt d 26 6) (beAt d 32 4)
    let checks : List (Bool × Nat) := [
      (decide (d.length ≠ 64 ∨ beAt d 0 2 ≠ 0x4B41 ∨ beAt d 2 1 ≠ 1 ∨ 1000000000 ≤ beAt d 22 4 ∨ 1000000000 ≤ beAt d 32 4), 32),
      (!(decide (slot < 8) && bit (s.confAt na cAlertKeyEnable) slot), 33),
      (decide (alertMac (leBytes 16 (s.confAt na (cAlertKey slot))) d ≠ d.drop 56), 34), (!s.tb.anchorValid, 35),
      (decide (s.confAt na cAlertMaxAge * 1024000 < |twDiff tr (u.ofPtp (beAt d 16 6) (beAt d 22 4))|), 36),
      (decide (beAt d 8 8 ≤ (Tab.get 0#64 s.trig.alertSeq slot).toNat), 37), (decide (s.sys.dev ≠ .run), 22),
      (decide (s.sys.role = .fenced), 23)]
    let bound := s.bindingOf tr
    (windowValid n g = false → r = (s, .badWindow, 0#32)) ∧
    (windowValid n g = true → s.windowOld oldest g = true → r.2 = (.tooOld, 0#32) ∧ r.1.trig.contexts = s.trig.contexts ∧
      r.1.trig.refused = s.trig.refused ++ [(n, rank, g.cls)] ∧
      r.1.count (kLossCounters 9) = (s.count (kLossCounters 9) + 1) % 2 ^ 64) ∧
    (valid → k.latest = some l → before g.wstart l.ls = true → r = (s, .outOfOrder, 0#32)) ∧
    (valid → k.latest = some l → before g.wstart l.ls = false → notAfter g.wend l.le = true →
      r.2 = (.absorbed, l.number) ∧ (l.ctx = none → r.1 = s) ∧
      ∀ y c, l.ctx = some y → Tab.look s.trig.contexts y = some c →
        Tab.look r.1.trig.contexts y = some { c with count := min (c.count + 1) 65535 }) ∧
    (valid → k.latest = some l → before g.wstart l.ls = false → notAfter g.wend l.le = false → ∀ y c, l.ctx = some y →
      before g.wstart (l.le + gap) = true → Tab.look s.trig.contexts y = some c → c.cls = g.cls → s.hist.runStop = none →
      r.2 = (.merged, l.number) ∧ (r.1.cls g.cls).latest = some { l with le := g.wend } ∧
      Tab.look r.1.trig.contexts y = some { c with wend := g.wend, count := min (c.count + 1) 65535 }) ∧
    (valid → s.hist.runStop = none → s.trig.contexts.length < 3072 →
      (k.latest = none → opened .opened g.wstart) ∧
      (k.latest = some l → before g.wstart l.ls = false → notAfter g.wend l.le = false →
        (∀ y, l.ctx = some y → before g.wstart (l.le + gap) = false → opened .opened g.wstart) ∧
        (l.ctx = none → opened (if before g.wstart l.le then .trimmed else .opened)
          (if before g.wstart l.le then l.le else g.wstart)))) ∧
    ((s.ethPort e).link = false → exec (.alertDatagram dt e cap frame) s = .next u) ∧
    ((s.ethPort e).link = true → s.alertPayload na e frame = none →
      exec (.alertDatagram dt e cap frame) s = .next (u.ethDrop e)) ∧
    ((s.ethPort e).link = true → s.alertPayload na e frame = some d → s.sys.role = .mizzen →
      exec (.alertDatagram dt e cap frame) s = .next (u.bump kAlertReceived)) ∧
    ((s.ethPort e).link = true → s.alertPayload na e frame = some d → s.sys.role ≠ .mizzen →
      (∀ b code, checks.find? (·.1) = some (b, code) → exec (.alertDatagram dt e cap frame) s =
        .next (((u.bump kAlertReceived).bump kAlertRefused).setStat kLastAlertRefusal code)) ∧
      (checks.find? (·.1) = none → Runs (.alertDatagram dt e cap frame) s (fun t =>
        t.count kAlertReceived = (s.count kAlertReceived + 1) % 2 ^ 32 ∧
        Tab.get 0#64 t.trig.alertSeq slot = BitVec.ofNat 64 (beAt d 8 8) ∧
        (s.inRun bound = true → sliceLt bound s.hist.nextClose = false → Tab.get [] t.trig.bound bound =
          Tab.get [] s.trig.bound bound ++ [⟨.alert, slot, beAt d 44 1, ev, ev - BitVec.ofNat 64 (beAt d 36 4 * 1024),
            ev + BitVec.ofNat 64 (beAt d 40 4 * 1024), BitVec.ofNat 32 (beAt d 4 4), none, s.trig.arrivals + 1,
            BitVec.ofNat 64 (beAt d 8 8)⟩]) ∧
        { t with trig := s.trig, stat := s.stat, twin := s.twin, stay := s.stay, out := s.out } = u ∧
        (s.sealedAfter tr = none → t.twin = s.twin ∧ t.stay = s.stay ∧ t.out = s.out))))

/-! ### Feature processors: format A (R218 to R227) -/

/-- R217, R218, R219, R221, R227, R228: for every legal instruction of a feature processor, with every operand at every value,
decoding the word that the tables give it gives it back; and what the decoder gives is a legal instruction of that core. -/
def Obligations.FeatureWordsDecodeBack : Prop :=
  ∀ (g : CoreId) (i : Instr) (w : BitVec 48),
    (fpCore i = some g → fpLegal i = true → fpDecode g (fpEncode i) = some i) ∧
    (fpDecode g w = some i → fpCore i = some g ∧ fpLegal i = true)

/-- R223, R224, R225, R227: the multiplying operations of format A on one accumulator. Each product is twice the product of
two signed data values; FMULR, FMACR, FMSBR and RNDA round; carry and borrow are those of the operands as placed.
R223, R224, R227: the logic operations on bits 47:24 of an accumulator, and the dual operations on Aa and its partner. -/
def Obligations.FormatAProductsAndFlags : Prop :=
  (∀ (g : CoreId) (f : FmtA) (s : State),
     OpRuns g (.fmul g f) s (fun r r' =>
       AccResult f.a (2 * ((r.dreg f.s).toInt * (r.dreg f.t).toInt)) false r r') ∧
     OpRuns g (.fmulr g f) s (fun r r' => ∃ q, Rounded (r.flag srRND) (2 * ((r.dreg f.s).toInt * (r.dreg f.t).toInt)) q ∧
       AccResult f.a q false r r') ∧
     OpRuns g (.fmac g f) s (fun r r' =>
       let p := 2 * ((r.dreg f.s).toInt * (r.dreg f.t).toInt)
       AccResult f.a ((r.acc f.a).toInt + p) (CarryOut (r.acc f.a) p) r r') ∧
     OpRuns g (.fmacr g f) s (fun r r' =>
       let p := 2 * ((r.dreg f.s).toInt * (r.dreg f.t).toInt)
       ∃ q, Rounded (r.flag srRND) ((r.acc f.a).toInt + p) q ∧ AccResult f.a q (CarryOut (r.acc f.a) p) r r') ∧
     OpRuns g (.fmsb g f) s (fun r r' =>
       let p := 2 * ((r.dreg f.s).toInt * (r.dreg f.t).toInt)
       AccResult f.a ((r.acc f.a).toInt - p) (BorrowOut (r.acc f.a) p) r r') ∧
     OpRuns g (.fmsbr g f) s (fun r r' =>
       let p := 2 * ((r.dreg f.s).toInt * (r.dreg f.t).toInt)
       ∃ q, Rounded (r.flag srRND) ((r.acc f.a).toInt - p) q ∧ AccResult f.a q (BorrowOut (r.acc f.a) p) r r') ∧
     OpRuns g (.rnda g f) s (fun r r' => ∃ q, Rounded (r.flag srRND) (r.acc f.a).toInt q ∧ AccResult f.a q false r r') ∧
     OpRuns g (.smac g f) s (fun r r' =>
       AccResult f.a ((r.acc f.a).toInt + 2 * ((r.dreg f.s).toInt * (r.dreg f.t).toInt) +
         2 * ((r.dreg f.u).toInt * (r.dreg f.v).toInt)) false r r')) ∧
  (∀ (g : CoreId) (f : FmtA) (s : State),
     (∀ i op, (i, op) ∈ [(Instr.andw g f, fun (x y : BitVec 24) => x &&& y), (.orw g f, fun x y => x ||| y),
         (.xorw g f, fun x y => x ^^^ y)] →
       OpRuns g i s (fun r r' => r'.acc f.a = (r.acc f.a).extractLsb' 48 8 ++ op ((r.acc f.a).extractLsb' 24 24) (r.dreg f.s) ++
           (r.acc f.a).extractLsb' 0 24 ∧ AccResult f.a (r'.acc f.a).toInt false r r')) ∧
     OpRuns g (.dmul g f) s (fun r r' => DualResult f.a (2 * ((r.dreg f.s).toInt * (r.dreg f.t).toInt))
       (2 * ((r.dreg f.u).toInt * (r.dreg f.v).toInt)) false r r') ∧
     OpRuns g (.dmac g f) s (fun r r' =>
       let p := 2 * ((r.dreg f.s).toInt * (r.dreg f.t).toInt)
       DualResult f.a ((r.acc f.a).toInt + p) ((r.acc (f.a ^^^ 1#2)).toInt + 2 * ((r.dreg f.u).toInt * (r.dreg f.v).toInt))
         (CarryOut (r.acc f.a) p) r r') ∧
     OpRuns g (.dmsb g f) s (fun r r' =>
       let p := 2 * ((r.dreg f.s).toInt * (r.dreg f.t).toInt)
       DualResult f.a ((r.acc f.a).toInt - p) ((r.acc (f.a ^^^ 1#2)).toInt - 2 * ((r.dreg f.u).toInt * (r.dreg f.v).toInt))
         (BorrowOut (r.acc f.a) p) r r') ∧
     OpRuns g (.dmacr g f) s (fun r r' =>
       let p := 2 * ((r.dreg f.s).toInt * (r.dreg f.t).toInt)
       ∃ q q', Rounded (r.flag srRND) ((r.acc f.a).toInt + p) q ∧
         Rounded (r.flag srRND) ((r.acc (f.a ^^^ 1#2)).toInt + 2 * ((r.dreg f.u).toInt * (r.dreg f.v).toInt)) q' ∧
         DualResult f.a q q' (CarryOut (r.acc f.a) p) r r'))

/-- R222, R224, R225, R227: the operations of format A that load, add, compare, negate, shift or copy an accumulator.
A data value enters as d * 2^24; CMPW changes flags only. -/
def Obligations.FormatASumsShiftsAndFlags : Prop :=
  ∀ (g : CoreId) (f : FmtA) (s : State),
    OpRuns g (.zero g f) s (fun r r' => AccResult f.a 0 false r r') ∧
    OpRuns g (.lda g f) s (fun r r' => AccResult f.a ((r.dreg f.s).toInt * 2 ^ 24) false r r') ∧
    OpRuns g (.addw g f) s (fun r r' =>
      let d := (r.dreg f.s).toInt * 2 ^ 24
      AccResult f.a ((r.acc f.a).toInt + d) (CarryOut (r.acc f.a) d) r r') ∧
    OpRuns g (.subw g f) s (fun r r' =>
      let d := (r.dreg f.s).toInt * 2 ^ 24
      AccResult f.a ((r.acc f.a).toInt - d) (BorrowOut (r.acc f.a) d) r r') ∧
    OpRuns g (.cmpw g f) s (fun r r' =>
      r'.a = r.a ∧ FlagsShow ((r.acc f.a).toInt - (r.dreg f.s).toInt * 2 ^ 24) r' ∧ r'.flag srV = false ∧
      r'.flag srC = false ∧ r'.flag srSS = r.flag srSS ∧ SrKept r r') ∧
    OpRuns g (.absa g f) s (fun r r' => AccResult f.a |(r.acc f.a).toInt| false r r') ∧
    OpRuns g (.nega g f) s (fun r r' => AccResult f.a (-(r.acc f.a).toInt) false r r') ∧
    OpRuns g (.shl1 g f) s (fun r r' => AccResult f.a ((r.acc f.a).toInt * 2) ((r.acc f.a).getLsbD 55) r r') ∧
    OpRuns g (.shr1 g f) s (fun r r' => AccResult f.a ((r.acc f.a).toInt / 2) ((r.acc f.a).getLsbD 0) r r') ∧
    OpRuns g (.cpya g f) s (fun r r' => AccResult f.a (r.acc (f.t.setWidth 2)).toInt false r r') ∧
    OpRuns g (.suma g f) s (fun r r' =>
      let e := (r.acc (f.t.setWidth 2)).toInt
      AccResult f.a ((r.acc f.a).toInt + e) (CarryOut (r.acc f.a) e) r r') ∧
    OpRuns g (.difa g f) s (fun r r' =>
      let e := (r.acc (f.t.setWidth 2)).toInt
      AccResult f.a ((r.acc f.a).toInt - e) (BorrowOut (r.acc f.a) e) r r')

/-- R196, R219, R220, R226: the parallel moves of every format A word, MV among them, with every operand as it stood at the
start of the cycle: loads, stores (an accumulator's upper word as it stands), pointers; ignored writes are
counted, and every other word of X and Y keeps its value. -/
def Obligations.FormatAParallelMoves : Prop :=
  ∀ (g : CoreId) (f : FmtA) (n : Nat) (i : Instr) (s : State), fmtAInstr g f n = some i → FpReady g i s →
    Runs i s (fun t =>
      let c := s.core g.val
      let c' := t.core g.val
      let ax := (c.regs.ea ⟨f.x.ptr, f.x.mode.setWidth 3⟩).1
      let ay := (c.regs.ea ⟨f.y.ptr, f.y.mode.setWidth 3⟩).1
      (∀ j, c'.regs.dreg j =
        if f.x.enable = true ∧ f.x.store = false ∧ j = f.x.reg.setWidth 3 then c.readX ax
        else if f.y.enable = true ∧ f.y.store = false ∧ j = f.y.reg.setWidth 3 then c.readY ay
        else c.regs.dreg j) ∧
      (∀ j, c'.regs.ptr j =
        if f.x.enable = true ∧ j = f.x.ptr ∧ f.x.mode ≠ 0#2 then (c.regs.ea ⟨f.x.ptr, f.x.mode.setWidth 3⟩).2
        else if f.y.enable = true ∧ j = f.y.ptr ∧ f.y.mode ≠ 0#2 then (c.regs.ea ⟨f.y.ptr, f.y.mode.setWidth 3⟩).2
        else c.regs.ptr j) ∧
      (∀ k, Tab.get 0#24 c'.x k =
        if f.x.enable = true ∧ f.x.store = true ∧ StoresX ax k then c.regs.moveSource f.x.reg else Tab.get 0#24 c.x k) ∧
      (∀ k, Tab.get 0#24 c'.y k =
        if f.y.enable = true ∧ f.y.store = true ∧ StoresY c ay k then c.regs.moveSource f.y.reg else Tab.get 0#24 c.y k) ∧
      c'.results = c.results ∧
      t.count (kCoreAccessFaults g.val) =
        (s.count (kCoreAccessFaults g.val) + (if f.x.enable = true ∧ f.x.store = true ∧ IgnoredX ax then 1 else 0) +
          (if f.y.enable = true ∧ f.y.store = true ∧ IgnoredY ay then 1 else 0)) % 2 ^ 32 ∧
      (n = 0 → c'.regs.a = c.regs.a ∧ c'.regs.sr = c.regs.sr ∧ c'.regs.n = c.regs.n ∧ NextWord c.regs c'.regs ∧
        FpFrame g 1 s t ∧ CoreKept c c'))

/-! ### Feature processors: format B (R228 to R235) -/

/-- R228: NOP, and the data-register instructions of format B with their flags: results modulo 2^24, C the carry out of bit
23 or the borrow, V the signed overflow; immediate loads set no flag. Accumulators, pointers and offsets stay. -/
def Obligations.DataRegisterInstructions : Prop :=
  ∀ (g : CoreId) (d e f : BitVec 3) (i : BitVec 24) (n : BitVec 5) (s : State),
    RegRuns g (.nop g) s (fun r r' => r'.d = r.d ∧ DataRest r r' ∧ r'.sr = r.sr) ∧
    RegRuns g (.ldi g d i) s (fun r r' => DataTakes d i r r' ∧ DataRest r r' ∧ r'.sr = r.sr) ∧
    RegRuns g (.addi g d i) s (fun r r' => DataTakes d (r.dreg d + i) r r' ∧ DataRest r r' ∧
      DataFlags (r.dreg d + i) r r' ∧ (r'.flag srC = true ↔ 2 ^ 24 ≤ (r.dreg d).toNat + i.toNat) ∧
      (r'.flag srV = true ↔ (r.dreg d + i).toInt ≠ (r.dreg d).toInt + i.toInt)) ∧
    RegRuns g (.andi g d i) s (fun r r' => DataTakes d (r.dreg d &&& i) r r' ∧ DataRest r r' ∧
      DataFlags (r.dreg d &&& i) r r' ∧ r'.flag srC = r.flag srC ∧ r'.flag srV = r.flag srV) ∧
    RegRuns g (.ori g d i) s (fun r r' => DataTakes d (r.dreg d ||| i) r r' ∧ DataRest r r' ∧
      DataFlags (r.dreg d ||| i) r r' ∧ r'.flag srC = r.flag srC ∧ r'.flag srV = r.flag srV) ∧
    RegRuns g (.addd g d e f) s (fun r r' => DataTakes d (r.dreg e + r.dreg f) r r' ∧ DataRest r r' ∧
      DataFlags (r.dreg e + r.dreg f) r r' ∧ (r'.flag srC = true ↔ 2 ^ 24 ≤ (r.dreg e).toNat + (r.dreg f).toNat) ∧
      (r'.flag srV = true ↔ (r.dreg e + r.dreg f).toInt ≠ (r.dreg e).toInt + (r.dreg f).toInt)) ∧
    RegRuns g (.subd g d e f) s (fun r r' => DataTakes d (r.dreg e - r.dreg f) r r' ∧ DataRest r r' ∧
      DataFlags (r.dreg e - r.dreg f) r r' ∧ (r'.flag srC = true ↔ (r.dreg e).toNat < (r.dreg f).toNat) ∧
      (r'.flag srV = true ↔ (r.dreg e - r.dreg f).toInt ≠ (r.dreg e).toInt - (r.dreg f).toInt)) ∧
    RegRuns g (.srai g d n) s (fun r r' => (r'.dreg d).toInt = (r.dreg d).toInt / 2 ^ n.toNat ∧
      (∀ j, j ≠ d → r'.dreg j = r.dreg j) ∧ DataRest r r' ∧ DataFlags (r'.dreg d) r r' ∧ r'.flag srC = r.flag srC ∧
      r'.flag srV = r.flag srV) ∧
    RegRuns g (.slli g d n) s (fun r r' => (r'.dreg d).toNat = (r.dreg d).toNat * 2 ^ n.toNat % 2 ^ 24 ∧
      (∀ j, j ≠ d → r'.dreg j = r.dreg j) ∧ DataRest r r' ∧ DataFlags (r'.dreg d) r r' ∧ r'.flag srC = r.flag srC ∧
      r'.flag srV = r.flag srV)

/-- R226, R228, R229: the instructions that load pointers and offsets, that read and write registers by code, and that read
an accumulator: its parts as they stand (GETA), or its upper word limited (SATU). A write of SR changes bits 11:9 only. -/
def Obligations.PointerAndCodeInstructions : Prop :=
  ∀ (g : CoreId) (d p : BitVec 3) (k : BitVec 5) (a x : BitVec 2) (i : BitVec 16) (s : State),
    RegRuns g (.ldp g d i) s (fun r r' => r'.ptr d = i ∧ (∀ j, j ≠ d → r'.ptr j = r.ptr j) ∧ r'.d = r.d ∧ r'.a = r.a ∧
      r'.n = r.n ∧ r'.sr = r.sr ∧ NextWord r r') ∧
    RegRuns g (.ldn g d i) s (fun r r' => r'.off d = i ∧ (∀ j, j ≠ d → r'.off j = r.off j) ∧ r'.d = r.d ∧ r'.a = r.a ∧
      r'.p = r.p ∧ r'.sr = r.sr ∧ NextWord r r') ∧
    RegRuns g (.lea g d p i) s (fun r r' => r'.ptr d = r.ptr p + i ∧ (∀ j, j ≠ d → r'.ptr j = r.ptr j) ∧ r'.d = r.d ∧
      r'.a = r.a ∧ r'.n = r.n ∧ r'.sr = r.sr ∧ NextWord r r') ∧
    RegRuns g (.rdr g d k) s (fun r r' =>
      (k.toNat < 8 → (r'.dreg d).toNat = (r.ptr (k.setWidth 3)).toNat) ∧
      (8 ≤ k.toNat → k.toNat < 16 → (r'.dreg d).toInt = (r.off (k.setWidth 3)).toInt) ∧
      (16 ≤ k.toNat → k.toNat < 20 → (r'.dreg d).toNat = (r.cnt (k.setWidth 2)).toNat) ∧
      (k.toNat = 20 → ∀ n : Nat, n < 12 → (r'.dreg d).getLsbD n = r.sr.getLsbD n) ∧
      (∀ j, j ≠ d → r'.dreg j = r.dreg j) ∧ DataRest r r' ∧ r'.sr = r.sr) ∧
    RegRuns g (.wrr g k p) s (fun r r' =>
      r'.d = r.d ∧ r'.a = r.a ∧
      (∀ j : BitVec 3, r'.ptr j = if k.toNat = j.toNat then (r.dreg p).setWidth 16 else r.ptr j) ∧
      (∀ j : BitVec 3, r'.off j = if k.toNat = 8 + j.toNat then (r.dreg p).setWidth 16 else r.off j) ∧
      (∀ n, r'.sr.getLsbD n = if k.toNat = 20 ∧ 9 ≤ n ∧ n ≤ 11 then (r.dreg p).getLsbD n else r.sr.getLsbD n) ∧
      ((∀ l, r.loops.getLast? = some l → l.2 ≠ r.pc) → r'.pc = r.pc + 1 ∧ r'.loops = r.loops ∧
        ∀ j : BitVec 2, r'.cnt j = if k.toNat = 16 + j.toNat then (r.dreg p).setWidth 16 else r.cnt j)) ∧
    RegRuns g (.geta g d a x) s (fun r r' =>
      (x = 0#2 → r'.dreg d = (r.acc a).extractLsb' 0 24) ∧ (x = 1#2 → r'.dreg d = (r.acc a).extractLsb' 24 24) ∧
      (x = 2#2 → (r'.dreg d).toInt = ((r.acc a).extractLsb' 48 8).toInt) ∧ (∀ j, j ≠ d → r'.dreg j = r.dreg j) ∧
      DataRest r r' ∧ r'.sr = r.sr) ∧
    RegRuns g (.satu g d a) s (fun r r' =>
      let out := ¬ (-(2 ^ 47) ≤ (r.acc a).toInt ∧ (r.acc a).toInt < 2 ^ 47)
      (¬ out → (r'.dreg d).toInt = (r.acc a).toInt / 2 ^ 24) ∧
      (out → r'.dreg d = if 0 ≤ (r.acc a).toInt then 0x7FFFFF#24 else 0x800000#24) ∧
      (∀ j, j ≠ d → r'.dreg j = r.dreg j) ∧ r'.a = r.a ∧ r'.p = r.p ∧ r'.n = r.n ∧ NextWord r r' ∧
      (r'.flag srN = true ↔ (r'.dreg d).toInt < 0) ∧ (r'.flag srZ = true ↔ r'.dreg d = 0#24) ∧
      (r'.flag srSS = true ↔ r.flag srSS = true ∨ out) ∧
      ∀ n, n ≠ srN → n ≠ srZ → n ≠ srSS → r'.sr.getLsbD n = r.sr.getLsbD n)

/-- R193, R196, R228: the loads and stores of format B. A load takes the word at the address used, a store sends the data
register there and leaves every other word of both memories alone; the pointer moves by its mode in every case, and an ignored
write is counted. -/
def Obligations.DataMemoryInstructions : Prop :=
  ∀ (g : CoreId) (d : BitVec 3) (o : MemOp) (s : State),
    let c := s.core g.val
    let a := (c.regs.ea o).1
    let moved := fun (r' : Regs) => (∀ j, r'.ptr j = if j = o.p then (c.regs.ea o).2 else c.regs.ptr j) ∧ r'.n = c.regs.n ∧
      r'.a = c.regs.a ∧ r'.sr = c.regs.sr ∧ NextWord c.regs r'
    (FpReady g (.ldx g d o) s → Runs (.ldx g d o) s (fun t => FpFrame g 1 s t ∧ CoreKept c (t.core g.val) ∧
      MemKept c (t.core g.val) ∧ moved (t.core g.val).regs ∧ DataTakes d (c.readX a) c.regs (t.core g.val).regs)) ∧
    (FpReady g (.ldy g d o) s → Runs (.ldy g d o) s (fun t => FpFrame g 1 s t ∧ CoreKept c (t.core g.val) ∧
      MemKept c (t.core g.val) ∧ moved (t.core g.val).regs ∧ DataTakes d (c.readY a) c.regs (t.core g.val).regs)) ∧
    (FpReady g (.stx g d o) s → Runs (.stx g d o) s (fun t => FpFrame g 1 s t ∧ CoreKept c (t.core g.val) ∧
      moved (t.core g.val).regs ∧ (t.core g.val).regs.d = c.regs.d ∧ (t.core g.val).results = c.results ∧
      (t.core g.val).y = c.y ∧
      (∀ k, Tab.get 0#24 (t.core g.val).x k = if StoresX a k then c.regs.dreg d else Tab.get 0#24 c.x k) ∧
      t.count (kCoreAccessFaults g.val) = (s.count (kCoreAccessFaults g.val) + if IgnoredX a then 1 else 0) % 2 ^ 32)) ∧
    (FpReady g (.sty g d o) s → Runs (.sty g d o) s (fun t => FpFrame g 1 s t ∧ CoreKept c (t.core g.val) ∧
      moved (t.core g.val).regs ∧ (t.core g.val).regs.d = c.regs.d ∧ (t.core g.val).results = c.results ∧
      (t.core g.val).x = c.x ∧
      (∀ k, Tab.get 0#24 (t.core g.val).y k = if StoresY c a k then c.regs.dreg d else Tab.get 0#24 c.y k) ∧
      t.count (kCoreAccessFaults g.val) = (s.count (kCoreAccessFaults g.val) + if IgnoredY a then 1 else 0) % 2 ^ 32))

/-- R224, R228, R232, R233, R234: compare with memory, the search step, the division step and the filter tap.
R223, R224, R228: integer products without the shift, and arithmetic shifts of an accumulator by up to 55 places, whose
carry is the last bit out. That a shift by 0 sends no bit out and leaves C at 0 is the model's choice (log entry 20). -/
def Obligations.SearchDivisionAndFilterSteps : Prop :=
  (∀ (g : CoreId) (a : BitVec 2) (o : MemOp) (k i j d : BitVec 3) (s : State),
     let c := s.core g.val
     (FpReady g (.cmpm g a o) s → Runs (.cmpm g a o) s (fun t =>
       let r' := (t.core g.val).regs
       FpFrame g 1 s t ∧ CoreKept c (t.core g.val) ∧ MemKept c (t.core g.val) ∧ r'.a = c.regs.a ∧ r'.d = c.regs.d ∧
       r'.n = c.regs.n ∧ (∀ q, r'.ptr q = if q = o.p then (c.regs.ea o).2 else c.regs.ptr q) ∧ NextWord c.regs r' ∧
       FlagsShow ((c.regs.acc a).toInt - (c.readX (c.regs.ea o).1).toInt * 2 ^ 24) r' ∧ r'.flag srV = false ∧
       r'.flag srC = false ∧ r'.flag srSS = c.regs.flag srSS ∧ SrKept c.regs r')) ∧
     (FpReady g (.maxs g a o k) s → Runs (.maxs g a o k) s (fun t =>
       let r' := (t.core g.val).regs
       let v := (c.readX (c.regs.ea o).1).toInt * 2 ^ 24
       let hit := (c.regs.acc a).toInt < v
       FpFrame g 1 s t ∧ CoreKept c (t.core g.val) ∧ MemKept c (t.core g.val) ∧ r'.d = c.regs.d ∧ r'.n = c.regs.n ∧
       (r'.acc a).toInt = (if hit then v else (c.regs.acc a).toInt) ∧ (∀ b, b ≠ a → r'.acc b = c.regs.acc b) ∧
       (∀ q, r'.ptr q = if q = k ∧ hit then (c.regs.ea o).1 else if q = o.p then (c.regs.ea o).2 else c.regs.ptr q) ∧
       NextWord c.regs r' ∧ (r'.flag srC = true ↔ hit) ∧ ∀ n, n ≠ srC → r'.sr.getLsbD n = c.regs.sr.getLsbD n)) ∧
     RegRuns g (.divs g a d) s (fun r r' =>
       let v := 2 * (r.acc a).toNat % 2 ^ 56
       let hit := (r.dreg d).toNat ≤ v / 2 ^ 24
       (r'.acc a).toNat = (if hit then v - (r.dreg d).toNat * 2 ^ 24 + 1 else v) ∧ (∀ b, b ≠ a → r'.acc b = r.acc b) ∧
       DataKept r r' ∧ NextWord r r' ∧ (r'.flag srC = true ↔ hit) ∧ (r'.flag srN = true ↔ (r'.acc a).toInt < 0) ∧
       (r'.flag srZ = true ↔ r'.acc a = 0#56) ∧
       ∀ n, n ≠ srC → n ≠ srN → n ≠ srZ → r'.sr.getLsbD n = r.sr.getLsbD n) ∧
     (FpReady g (.ftap g a i j) s → Runs (.ftap g a i j) s (fun t =>
       let r' := (t.core g.val).regs
       let x := c.readY (c.regs.ptr i)
       let p := 2 * (x.toInt * (c.readY (c.regs.ptr j)).toInt)
       FpFrame g 1 s t ∧ CoreKept c (t.core g.val) ∧ (t.core g.val).x = c.x ∧ (t.core g.val).results = c.results ∧
       AccResult a ((c.regs.acc a).toInt + p) (CarryOut (c.regs.acc a) p) c.regs r' ∧ r'.d = c.regs.d ∧ r'.n = c.regs.n ∧
       r'.ptr i = c.regs.ptr i - 1 ∧ r'.ptr j = c.regs.ptr j + 1 ∧ (∀ q, q ≠ i → q ≠ j → r'.ptr q = c.regs.ptr q) ∧
       NextWord c.regs r' ∧
       (∀ m, Tab.get 0#24 (t.core g.val).y m = if StoresY c (c.regs.ptr i + 1) m then x else Tab.get 0#24 c.y m) ∧
       t.count (kCoreAccessFaults g.val) =
         (s.count (kCoreAccessFaults g.val) + if IgnoredY (c.regs.ptr i + 1) then 1 else 0) % 2 ^ 32))) ∧
  (∀ (g : CoreId) (a : BitVec 2) (p q : BitVec 3) (n : BitVec 6) (s : State),
     RegRuns g (.imul g a p q) s (fun r r' => AccResult a ((r.dreg p).toInt * (r.dreg q).toInt) false r r' ∧ DataKept r r' ∧
       NextWord r r') ∧
     RegRuns g (.imac g a p q) s (fun r r' =>
       let e := (r.dreg p).toInt * (r.dreg q).toInt
       AccResult a ((r.acc a).toInt + e) (CarryOut (r.acc a) e) r r' ∧ DataKept r r' ∧ NextWord r r') ∧
     RegRuns g (.sraa g a n) s (fun r r' =>
       let k := min n.toNat 55
       AccResult a ((r.acc a).toInt / 2 ^ k) (if k = 0 then false else (r.acc a).getLsbD (k - 1)) r r' ∧ DataKept r r' ∧
       NextWord r r') ∧
     RegRuns g (.slla g a n) s (fun r r' =>
       let k := min n.toNat 55
       AccResult a ((r.acc a).toInt * 2 ^ k) (if k = 0 then false else (r.acc a).getLsbD (56 - k)) r r' ∧ DataKept r r' ∧
       NextWord r r'))

/-- R197, R228, R230, R231: loops and jumps. LOOP and LOOPR open the lowest closed level, or go on behind the body when the
count is 0; a jump closes every level whose body does not hold its target and every level inside it; J.cc jumps when its
condition holds; EXIT.cc has no effect unless its condition holds in an open level, which it then closes.
R197, R229: the end of a loop body. After the last instruction of the innermost open level (a NOP here), the core
decrements the level's counter and jumps back when it is above 1, at no cost; otherwise it closes the level and goes on,
where no outer level ends at the same address. -/
def Obligations.LoopsAndJumps : Prop :=
  (∀ (g : CoreId) (d : BitVec 3) (k : BitVec 16) (n addr : BitVec 14) (cc : BitVec 4) (s : State),
     let r := (s.core g.val).regs
     let c := fun (x : BitVec 4) => condHolds r.sr x = true
     let opens := fun (count : BitVec 16) (r' : Regs) =>
       (count = 0#16 → r'.pc = r.pc + n.toNat + 1 ∧ r'.loops = r.loops ∧ r'.lc = r.lc) ∧
       (count ≠ 0#16 → r'.pc = r.pc + 1 ∧ r'.loops = r.loops ++ [(r.pc + 1, r.pc + n.toNat)] ∧
         r'.cnt (BitVec.ofNat 2 r.loops.length) = count ∧
         ∀ j, j ≠ BitVec.ofNat 2 r.loops.length → r'.cnt j = r.cnt j)
     let jumps := fun (r' : Regs) => r'.pc = addr.toNat ∧ r'.lc = r.lc ∧
       (∀ m : Nat, m < r'.loops.length → r'.loops[m]? = r.loops[m]?) ∧ r'.loops.length ≤ r.loops.length ∧
       (∀ l ∈ r'.loops, l.1 ≤ addr.toNat ∧ addr.toNat ≤ l.2) ∧
       (∀ l, r.loops[r'.loops.length]? = some l → ¬ (l.1 ≤ addr.toNat ∧ addr.toNat ≤ l.2))
     (c 0#4 ∧ (c 1#4 ↔ r.flag srZ = true) ∧ (c 2#4 ↔ r.flag srZ = false) ∧ (c 3#4 ↔ r.flag srN = false ∧ r.flag srZ = false) ∧
       (c 4#4 ↔ r.flag srN = false) ∧ (c 5#4 ↔ r.flag srN = true) ∧ (c 6#4 ↔ r.flag srN = true ∨ r.flag srZ = true) ∧
       (c 7#4 ↔ r.flag srC = true) ∧ (c 8#4 ↔ r.flag srC = false) ∧ (c 9#4 ↔ r.flag srV = true) ∧ (c 10#4 ↔ r.flag srSS = true)) ∧
     (k = 0#16 ∨ r.loops.length < 4 → FlowRuns g (.loop g k n) 1 s (opens k)) ∧
     ((r.dreg d).setWidth 16 = 0#16 ∨ r.loops.length < 4 → FlowRuns g (.loopr g d n) 1 s (opens ((r.dreg d).setWidth 16))) ∧
     FlowRuns g (.jump g addr) 2 s jumps ∧
     FlowRuns g (.jcc g cc addr) 2 s (fun r' => (condHolds r.sr cc = true → jumps r') ∧
       (condHolds r.sr cc = false → NextWord r r')) ∧
     FlowRuns g (.exitcc g cc) 1 s (fun r' =>
       (r.loops = [] ∨ condHolds r.sr cc = false → NextWord r r') ∧
       (condHolds r.sr cc = true → ∀ l outer, r.loops = outer ++ [l] → (∀ l', outer.getLast? = some l' → l'.2 ≠ l.2) →
         r'.pc = l.2 + 1 ∧ r'.loops = outer ∧ r'.lc = r.lc))) ∧
  (∀ (g : CoreId) (s : State) (outer : List (Nat × Nat)) (start : Nat),
     let r := (s.core g.val).regs
     r.loops = outer ++ [(start, r.pc)] → (∀ l, outer.getLast? = some l → l.2 ≠ r.pc) →
     FlowRuns g (.nop g) 1 s (fun r' =>
       let k := BitVec.ofNat 2 outer.length
       (1 < (r.cnt k).toNat → r'.pc = start ∧ r'.loops = r.loops ∧ r'.cnt k = r.cnt k - 1 ∧
         ∀ j, j ≠ k → r'.cnt j = r.cnt j) ∧
       ((r.cnt k).toNat ≤ 1 → r'.pc = r.pc + 1 ∧ r'.loops = outer ∧ r'.lc = r.lc)))

/-- R200, R201, R202, R235: EMIT and PRIM record a result, up to 32 in a packet, later ones are counted in EmitOverflow; DONE
ends the packet: the core is idle, unspent budget is forfeited, PacketsDone counts; a reload that waited
for its end begins (R213). -/
def Obligations.PacketResultsAndEnd : Prop :=
  ∀ (g : CoreId) (d e : BitVec 3) (k : BitVec 6) (s : State) (pk : Packet),
    let c := s.core g.val
    c.running = some pk →
    let gives := fun (x : Result) (t : State) => FpFrame g 1 s t ∧ CoreKept c (t.core g.val) ∧
      (t.core g.val).regs.sr = c.regs.sr ∧ (t.core g.val).regs.a = c.regs.a ∧ DataKept c.regs (t.core g.val).regs ∧
      (t.core g.val).x = c.x ∧ (t.core g.val).y = c.y ∧ NextWord c.regs (t.core g.val).regs ∧
      (c.results.length < 32 → (t.core g.val).results = c.results ++ [x] ∧
        t.count (kCoreEmitOverflow g.val) = s.count (kCoreEmitOverflow g.val) % 2 ^ 32) ∧
      (32 ≤ c.results.length → (t.core g.val).results = c.results ∧
        t.count (kCoreEmitOverflow g.val) = (s.count (kCoreEmitOverflow g.val) + 1) % 2 ^ 32)
    (FpReady g (.emit g d e) s → Runs (.emit g d e) s (gives
      (.hit (pk.tw + BitVec.ofInt 64 (c.regs.dreg d).toInt) (if c.regs.flag srSS then 5#4 else 4#4)
        ((c.regs.dreg e).setWidth 20)))) ∧
    (FpReady g (.prim g d k) s → Runs (.prim g d k) s (gives
      (.prim (pk.tw + BitVec.ofNat 64 ((c.regs.dreg d).toNat % 2 ^ 23)) k.toNat))) ∧
    (FpReady g (.done g) s → c.results = [] → c.loadFrom = none → c.offFrom = none → Runs (.done g) s (fun t =>
      t.core g.val = { c with state := if c.reloadNow then .loading else .idle, reloadNow := false, running := none,
                              budget := 0, results := [], regs := { c.regs with loops := [] } } ∧
      t.count (kCorePacketsDone g.val) = (s.count (kCorePacketsDone g.val) + 1) % 2 ^ 64 ∧
      t.count (kCoreCyclesUsed g.val) = (s.count (kCoreCyclesUsed g.val) + 1) % 2 ^ 64 ∧
      (∀ h, h ≠ g.val → t.core h = s.core h) ∧ { t with cores := s.cores, stat := s.stat } = s))

/-! ### Feature processors: packets, images, upsets (R189 to R213) -/

/-- R199, R204: what aborts a packet: too little budget for the next instruction, an illegal encoding, execution past 0x3FFF,
or an uncorrectable word. The results so far stand and one fallback hit follows them: time T, flags FP and RAW_BUDGET, n in
bits 19:12 and the 12 highest bits of the largest sample; the core is idle, and the abort is counted with its fault. -/
def Obligations.PacketAbortsLeaveFallbackHit : Prop :=
  ∀ (dt : Nat) (g : CoreId) (s : State) (pk : Packet),
    let u := s.elapse dt
    let c := s.core g.val
    let w := (sampleLayout (u.formatOf pk)).2
    let hit : Result := .hit pk.tw 6#4
      (BitVec.ofNat 20 (pk.words.length * 4096 + (u.samplesOf pk).foldl max 0 * 2 ^ 12 / 2 ^ w))
    let ended := fun (v : State) (c : Core) => State.deliver ((v.setCore g.val { c with
      state := .idle, running := none, budget := 0, results := [], regs := { c.regs with loops := [] } }).bump64
        (kCorePacketsDone g.val)) g.val pk (c.results ++ [hit])
    let faulted := fun (v : State) (code : Nat) => ((v.bump (kCoreFaults g.val)).setStat (kCoreLastFault g.val) code).setStat
      (kCoreLastFaultPc g.val) (c.regs.pc % 2 ^ 14)
    c.running = some pk → c.state = .busy → c.loadFrom = none → c.offFrom = none → c.reloadNow = false →
    (∀ i, c.regs.pc ≤ 0x3FFF → c.badP.contains c.regs.pc = false →
      fpDecode g (Tab.get 0#48 c.prog c.regs.pc) = some i → loopFits c.regs.pc i = true →
      (c.budget < fpCost i → exec (.budgetExhausted dt g) s = .next (ended (u.bump (kCoreBudgetExceeded g.val)) c)) ∧
      (∀ space addr, fpCost i ≤ c.budget → space ≠ .p → (space, addr) ∈ (fpEffect i (c.upset space addr)).bad →
        exec (.uncorrectable dt g space addr) s =
          .next (ended (faulted (u.bump64 (kCoreCyclesUsed g.val) (fpCost i)) 4) (c.upset space addr)))) ∧
    (0x3FFF < c.regs.pc → exec (.pcRange dt g) s = .next (ended (faulted u 3) c)) ∧
    (c.regs.pc ≤ 0x3FFF → c.badP.contains c.regs.pc = false → fpDecode g (Tab.get 0#48 c.prog c.regs.pc) = none →
      exec (.illegal dt g) s = .next (ended (faulted u 1) c)) ∧
    (c.regs.pc ≤ 0x3FFF → exec (.uncorrectable dt g .p c.regs.pc) s = .next (ended (faulted u 4) (c.upset .p c.regs.pc)))

/-- R190, R194, R199, R200: the start of the oldest packet of an idle core with no load under way or to come: the registers of R194, the
samples in the packet window as left-aligned two's complement, one cycle a word for the preamble; nothing else changes. -/
def Obligations.PacketStartSetsRegistersAndWindow : Prop :=
  ∀ (dt : Nat) (g : CoreId) (s : State) (pk : Packet) (rest : List Packet),
    let u := s.elapse dt
    let c := s.core g.val
    let w := (sampleLayout (u.formatOf pk)).2
    c.state = .idle → c.queue = pk :: rest → c.loadFrom = none →
    u.pendingLoad g.val = none → Runs (.packetStart dt g) s (fun t =>
      let c' := t.core g.val
      let r := c'.regs
      c'.state = .busy ∧ c'.running = some pk ∧ c'.queue = rest ∧ c'.budget = pk.budget - pk.words.length ∧ c'.results = [] ∧
      (∀ j : BitVec 3, r.dreg j = match j.toNat with
        | 0 => BitVec.ofNat 24 (u.samplesOf pk).length | 1 => BitVec.ofNat 24 pk.chan | 2 => BitVec.ofNat 24 pk.port
        | 3 => BitVec.ofNat 24 pk.words.length | _ => 0#24) ∧
      (∀ j, r.acc j = 0#56) ∧ (∀ j : BitVec 3, r.ptr j = if j = 0#3 then 0x7000#16 else 0#16) ∧ (∀ j, r.off j = 1#16) ∧
      (∀ j, r.cnt j = 0#16) ∧ r.sr = 0#16 ∧ r.pc = c.entry ∧ r.loops = [] ∧
      (∀ i (v : Nat), (u.samplesOf pk)[i]? = some v →
        Tab.get 0#24 c'.x (0x7000 + i) = BitVec.ofInt 24 (((v : Int) - 2 ^ (w - 1)) * 2 ^ (24 - w))) ∧
      (∀ k, k < 0x7000 ∨ 0x7000 + (u.samplesOf pk).length ≤ k → Tab.get 0#24 c'.x k = Tab.get 0#24 c.x k) ∧
      c'.prog = c.prog ∧ c'.y = c.y ∧ (∀ h, h ≠ g.val → t.core h = s.core h) ∧
      t.count (kCoreCyclesUsed g.val) = (s.count (kCoreCyclesUsed g.val) + pk.words.length) % 2 ^ 64 ∧
      (∀ k, k ≠ kCoreCyclesUsed g.val → t.count k = s.count k) ∧ { t with cores := s.cores, stat := s.stat } = u)

/-- R208, R209, R210, R211, R213: the end of a load (FP_LOAD_DONE). A load of R211 takes the image of the slot that FpImageMap
names, a reload of R213 that of the slot the core holds: it writes program memory (0 above the image), the constants and the
eight port banks, takes the entry point and the identifier, and leaves X but for the uncorrectable words found. A bank
initialisation writes the eight banks alone. The core is idle then. Without an image in the slot the core is without an image, and
each packet that waits is counted in FpOffDiscard. On a core that loads nothing the command has no effect.
R213: the scrubber, or a read of the core, finds an error in a word of a core's memories: a single-bit error is corrected and
counted in MemCorrected; an uncorrectable word is noted and makes a reload due. At a slice boundary the due reload begins: at
once on an idle core, otherwise when its packet has ended. -/
def Obligations.ImageLoadsFillMemories : Prop :=
  (∀ (dt : Nat) (g : CoreId) (s : State) (b : List Byte),
     let u := s.elapse dt
     let c := s.core g.val
     let slot := u.slotOf g.val
     let banks := fun (y : Tab (BitVec 24)) => ∀ bank n, bank < 8 → n < 0xC00 → leAt b 14 2 ≤ 0xC00 →
       Tab.get 0#24 y (bank * 0xC00 + n) =
         if n < leAt b 14 2 then BitVec.ofNat 24 (leAt b (64 + 8 * leAt b 10 2 + 4 * leAt b 12 2 + 4 * n) 4) else 0#24
     let loaded := fun (k : Nat) (t : State) =>
       let c' := t.core g.val
       c'.state = .idle ∧ c'.slot = k ∧ c'.entry = leAt b 8 2 ∧ c'.imageId.toNat = leAt b 16 4 ∧
       (∀ n, Tab.get 0#48 c'.prog n = if n < leAt b 10 2 then BitVec.ofNat 48 (leAt b (64 + 8 * n) 8) else 0#48) ∧
       (∀ n, n < 0x2000 → Tab.get 0#24 c'.y (0x6000 + n) =
         if n < leAt b 12 2 then BitVec.ofNat 24 (leAt b (64 + 8 * leAt b 10 2 + 4 * n) 4) else 0#24) ∧ banks c'.y ∧
       (∀ k, Tab.get 0#24 c'.x k = if c.badX.contains k then 0#24 else Tab.get 0#24 c.x k) ∧
       c'.badP = [] ∧ c'.badX = [] ∧ c'.badY = [] ∧ c'.regs = c.regs ∧ c'.queue = c.queue ∧
       (∀ h, h ≠ g.val → t.core h = s.core h) ∧ { t with cores := s.cores } = u
     let without := fun (k : Nat) (t : State) =>
       let m := fun key => (c.queue.filter (fun p => kPortFpOffDiscard p.port = key)).length
       (t.core g.val).state = .noImage ∧ (t.core g.val).slot = k ∧ (t.core g.val).imageId = 0#32 ∧ (t.core g.val).queue = [] ∧
       (∀ key, t.count key = if m key = 0 then s.count key else (s.count key + m key) % 2 ^ 32) ∧
       (∀ h, h ≠ g.val → t.core h = s.core h) ∧ { t with cores := s.cores, stat := s.stat } = u
     (c.state = .loading → c.loadKind = 3 →
       (s.image slot = some b → Runs (.fpLoadDone dt g) s (fun t => loaded slot t ∧ (t.core g.val).loadKind = 0 ∧
         (t.core g.val).reloadDue = false ∧ (t.core g.val).reloadNow = false)) ∧
       (s.image slot = none → Runs (.fpLoadDone dt g) s (without slot))) ∧
     (c.state = .loading → c.loadKind ≠ 3 → c.loadKind ≠ 4 → c.loadFrom = none → c.offFrom = none → c.reloadNow = false →
       (s.image c.slot = some b → Runs (.fpLoadDone dt g) s (fun t => loaded c.slot t ∧
         (t.core g.val).reloadDue = c.reloadDue)) ∧
       (s.image c.slot = none → Runs (.fpLoadDone dt g) s (without c.slot))) ∧
     (c.state = .loading → c.loadKind = 4 → s.image slot = some b → Runs (.fpLoadDone dt g) s (fun t =>
       let c' := t.core g.val
       c' = { c with state := .idle, loadKind := 0, y := c'.y, badY := c.badY.filter (0x6000 ≤ ·) } ∧ banks c'.y ∧
       (∀ n, 0x6000 ≤ n → Tab.get 0#24 c'.y n = Tab.get 0#24 c.y n) ∧
       (∀ h, h ≠ g.val → t.core h = s.core h) ∧ { t with cores := s.cores } = u)) ∧
     (c.state ≠ .loading → exec (.fpLoadDone dt g) s = .next u)) ∧
  (∀ (dt : Nat) (g : CoreId) (space : FpSpace) (addr : Nat) (s : State),
     let u := s.elapse dt
     let c := s.core g.val
     let only := fun (c' : Core) (t : State) =>
       t.core g.val = c' ∧ (∀ h, h ≠ g.val → t.core h = s.core h) ∧ { t with cores := s.cores } = u
     (c.state ≠ .off →
       exec (.fpUpset dt g space addr false) s = .next (u.bump (kCoreMemCorrected g.val)) ∧
       Runs (.fpUpset dt g space addr true) s (only (match space with
         | .p => { c with badP := c.badP ++ [addr], reloadDue := true }
         | .x => { c with badX := c.badX ++ [addr], reloadDue := true }
         | .y => { c with badY := c.badY ++ [addr], reloadDue := true }))) ∧
     (c.state = .off → ∀ double, exec (.fpUpset dt g space addr double) s = .next u) ∧
     (c.reloadDue = true → c.state = .idle → c.running = none → c.offFrom = none → Runs (.fpReload dt g) s
       (only { c with state := .loading, reloadDue := false, reloadNow := false })) ∧
     (c.reloadDue = true → c.running ≠ none → Runs (.fpReload dt g) s
       (only { c with reloadDue := false, reloadNow := true })) ∧
     (c.reloadDue = false → exec (.fpReload dt g) s = .next u))

/-! ### Host port (R236 to R273) -/

/-- R242 to R245, R258, R260: Control turns a DISABLED queue ACTIVE after its checks, or names the first that fails, and turns it
off, DRAINING while a transfer runs; bytes 0 to 27 are written only in DISABLED; the doorbells of an ACTIVE queue set the
tail, the completion head and ARM; the 16 bytes of a descriptor that was read (address, length, tag) join the queue or lead to
ERROR. -/
def Obligations.QueuesTurnOnAndOff : Prop :=
  ∀ (dt offset : Nat) (q : QueueId) (control : BitVec 8) (value : BitVec 64) (w : BitVec 32) (b : List Byte) (s : State),
    let u := s.elapse dt
    let x := s.queue q.val
    let acts := s.sys.dev ≠ .powered ∧ s.sys.dev ≠ .boot
    let i := w.toNat % 65536
    let leaves := fun (y : Queue) (t : State) =>
      { t.queue q.val with line := x.line, fullCount := x.fullCount, armed := y.armed, unsignalled := y.unsignalled } =
        { y with line := x.line, fullCount := x.fullCount } ∧
      (((t.queue q.val).armed = y.armed ∧ (t.queue q.val).unsignalled = y.unsignalled) ∨
        (y.armed = true ∧ y.intr = true ∧ s.delivers = true ∧ (t.queue q.val).armed = false ∧
          (t.queue q.val).unsignalled = 0)) ∧
      t.cfg = s.cfg ∧ t.tb = u.tb ∧ t.cores = s.cores ∧ t.ports = s.ports ∧ t.sys = s.sys
    let rings := x.descBase.toNat % 4096 = 0 ∧ x.complBase.toNat % 4096 = 0 ∧ 6 ≤ x.descLog2 ∧ x.descLog2 ≤ 16 ∧
      6 ≤ x.complLog2 ∧ x.complLog2 ≤ 16
    let off := fun (e : Nat) => { x with intr := control.getLsbD 1, enable := false, error := e }
    let posted := (x.descTail + 2 ^ x.descLog2 - x.descHead) % 2 ^ x.descLog2
    (acts → control.getLsbD 0 = true → x.state = .disabled →
      (rings → x.vector ≤ 2047 → 1 ≤ x.modCount → Runs (.queueEnable dt q control) s (leaves { x with
        intr := control.getLsbD 1, state := .active, enable := true, error := 0, descHead := 0, descTail := 0, complTail := 0,
        complHead := 0, complSeq := x.startSeq, armed := false, unsignalled := 0, fetched := [] })) ∧
      (¬ rings → Runs (.queueEnable dt q control) s (leaves (off 1))) ∧
      (rings → 2047 < x.vector → Runs (.queueEnable dt q control) s (leaves (off 2))) ∧
      (rings → x.vector ≤ 2047 → x.modCount = 0 → Runs (.queueEnable dt q control) s (leaves (off 5)))) ∧
    (acts → control.getLsbD 0 = false →
      (x.state = .active → x.transfer = none → Runs (.queueDisable dt q control) s (leaves { x with
        intr := control.getLsbD 1, enable := false, state := .disabled, fetched := [] })) ∧
      (x.state = .active → x.transfer ≠ none → Runs (.queueDisable dt q control) s (leaves { x with
        intr := control.getLsbD 1, enable := false, state := .draining })) ∧
      (x.state = .error → Runs (.queueDisable dt q control) s (leaves { x with
        intr := control.getLsbD 1, enable := false, state := .disabled, fetched := [] }))) ∧
    (acts → offset % 4 = 0 → offset ≤ 24 →
      (x.state = .disabled → Runs (.queueTableWrite dt q offset 4 value) s (fun t =>
        (t.queue q.val).entry = overlay x.entry (leBytes 4 value.toNat) offset ∧
        { t.queue q.val with
          descBase := x.descBase, complBase := x.complBase, descLog2 := x.descLog2, complLog2 := x.complLog2
          vector := x.vector, modCount := x.modCount, modTime := x.modTime, startSeq := x.startSeq } = x ∧
        (∀ r, r ≠ q.val → t.queue r = s.queue r) ∧ { t with host := s.host } = u)) ∧
      (x.state ≠ .disabled → exec (.queueTableWrite dt q offset 4 value) s = .next (u.bump kHostBadAccess))) ∧
    (acts → exec (.queueTableWrite dt q 28 4 value) s = exec (.queueEnable dt q (value.setWidth 8)) s) ∧
    (acts → x.state = .active →
      (i < 2 ^ x.descLog2 → Runs (.descTail dt q w) s (leaves { x with
        descTail := i, fetched := x.fetched.take ((i + 2 ^ x.descLog2 - x.descHead) % 2 ^ x.descLog2) })) ∧
      (2 ^ x.descLog2 ≤ i → exec (.descTail dt q w) s = .next (u.bump kHostBadAccess)) ∧
      (i < 2 ^ x.complLog2 →
        Runs (.complHead dt q w) s (leaves { x with complHead := i, armed := x.armed || w.getLsbD 31 }) ∧
        Runs (.complArm dt q w) s (leaves { x with complHead := i, armed := true })) ∧
      (2 ^ x.complLog2 ≤ i → Runs (.complHead dt q w) s (fun t =>
        leaves { x with armed := x.armed || w.getLsbD 31 } t ∧ t.count kHostBadAccess = (s.count kHostBadAccess + 1) % 2 ^ 32))) ∧
    (acts → x.state ≠ .active → exec (.descTail dt q w) s = .next u ∧ exec (.complHead dt q w) s = .next u) ∧
    (s.delivers = true → s.hostReady = true → x.state = .active → x.fetched.length < posted →
      let d : Desc := ⟨BitVec.ofNat 64 (leAt b 0 8), BitVec.ofNat 32 (leAt b 8 4), BitVec.ofNat 32 (leAt b 12 4)⟩
      let good := d.addr.toNat % 64 = 0 ∧ d.len.toNat % 64 = 0 ∧ 64 ≤ d.len.toNat ∧ d.len.toNat ≤ 16777216
      (good → Runs (.descriptorReadDone dt q (some b)) s (leaves { x with fetched := x.fetched ++ [d] })) ∧
      (¬ good → Runs (.descriptorReadDone dt q (some b)) s (fun t =>
        (t.queue q.val).state = .error ∧ (t.queue q.val).error = 3 ∧ (t.queue q.val).fetched = [] ∧
        (t.queue q.val).transfer = none)) ∧
      Runs (.descriptorReadDone dt q none) s (fun t =>
        (t.queue q.val).state = .error ∧ (t.queue q.val).error = 4 ∧ (t.queue q.val).fetched = [] ∧
        t.count kHostDescReadErrors = (s.count kHostDescReadErrors + 1) % 2 ^ 32))

/-- R30, R179, R236, R247, R248, R254 to R259: a transfer writes the record (its header first, its CRC last) into the posted
buffers, in packets of at most Max_Payload_Size that cross no 4 KiB boundary; its end writes the completion entry with the tag
of the first descriptor, advances both rings and frees the record, on a unit that may complete; WaitLimit frees a record that waited too long
in a full queue; ModTime sends the message of an armed queue, held pending while its vector is masked. -/
def Obligations.TransfersDeliverRecords : Prop :=
  ∀ (dt k : Nat) (q : QueueId) (upset entries : List Nat) (r : Record) (ks : List Nat) (g : Transfer) (s : State),
    let u := s.elapse dt
    let x := s.queue q.val
    let v := u.upsetIndex entries
    let bytes := (v.recordBytes r upset).1
    let bufs := fillBuffers x.fetched bytes
    let packets := fun (w : Nat × List Byte) => tlps s.host.mps w.2.length w.1 w.2
    let relaxed := s.host.relaxed && decide (s.conf cRelaxedOrdering = 1)
    let completes := (s.sys.dev = .run ∨ s.sys.dev = .standstill) ∧ (s.sys.role = .mainmast ∨ s.sys.role = .solo)
    let limit := s.conf (groupObj (q.val / 64) 12)
    let due := s.delivers = true ∧ s.hostReady = true ∧ x.intr = true ∧ x.armed = true ∧
      (x.modCount ≤ x.unsignalled ∨ (1 ≤ x.unsignalled ∧ x.modTime * 1024000 ≤ (u.tb.c - x.firstAt).toNat))
    let sent := fun (t : State) => t.queue q.val = { x with armed := false, unsignalled := 0 } ∧
      (∀ p, p ≠ q.val → t.queue p = s.queue p) ∧
      ((Tab.get msixReset s.host.msix x.vector).getLsbD 96 = false → t.out = .msix x.vector :: s.out ∧
        t.count kHostInterruptsSent = (s.count kHostInterruptsSent + 1) % 2 ^ 64 ∧
        t.host.msixPending = s.host.msixPending.filter (· ≠ x.vector)) ∧
      ((Tab.get msixReset s.host.msix x.vector).getLsbD 96 = true → t.out = s.out ∧ x.vector ∈ t.host.msixPending) ∧
      { t with host := s.host, stat := s.stat, out := s.out } = u
    (s.delivers = true → s.nextQueue = some q.val → s.transfers < 64 → x.line = k :: ks → s.record k = some r →
      Runs (.transferStart dt q upset entries) s (fun t =>
        (t.queue q.val).transfer = some ⟨r.seq, bytes, x.descHead, bufs.length, (x.fetched.head?.map (·.tag)).getD 0#32,
          (v.recordBytes r upset).2⟩ ∧
        (∃ body, bytes = (leBytes 8 r.seq.toNat ++ leBytes 8 r.wstart.toNat ++ leBytes 8 r.wend.toNat ++
            leBytes 8 r.trig.time.toNat ++ leBytes 1 r.trig.cls ++ leBytes 1 r.trig.source.num ++ leBytes 2 r.flags.toNat ++
            leBytes 2 r.covered ++ leBytes 2 r.count ++ leBytes 4 r.number.toNat ++ leBytes 2 r.cont ++
            leBytes 2 r.trig.srcNum ++ leBytes 6 r.binding ++ leBytes 2 0 ++ leBytes 4 r.epoch.toNat ++
            leBytes 4 r.trig.tag.toNat ++ body) ++ leBytes 4 (crc32c (bytes.take (bytes.length - 4))).toNat) ∧
        t.out = ((bufs.flatMap packets).map (fun w => Out.hostWrite w.1 w.2 relaxed)).reverse ++ s.out ∧
        (0 < s.host.mps → ∀ w ∈ bufs, (packets w).flatMap (·.2) = w.2 ∧
          ∀ p ∈ packets w, p.2.length ≤ s.host.mps ∧ p.1 % 4096 + p.2.length ≤ 4096) ∧
        t.host.nextGroup = (q.val / 64 + 1) % 256 ∧
        (∃ y, Tab.look t.trig.records r.seq.toNat = some y ∧ y.inTransfer = true) ∧
        t.cfg = s.cfg ∧ t.cores = s.cores ∧ t.ports = s.ports ∧ t.tb = u.tb)) ∧
    (s.nextQueue ≠ some q.val → exec (.transferStart dt q upset entries) s = .next u) ∧
    (completes → x.transfer = some g → s.record g.seq.toNat = some r → Runs (.transferComplete dt q) s (fun t =>
      let entry := leBytes 8 r.seq.toNat ++ leBytes 4 g.bytes.length ++ leBytes 2 g.firstDesc ++ leBytes 2 g.used ++
        leBytes 4 x.complSeq.toNat ++ leBytes 2 (bnat r.replay + 2 * bnat g.loss +
          4 * bnat (r.flags.getLsbD 0 || r.flags.getLsbD 1) + 8 * bnat r.overflowed) ++ leBytes 1 r.trig.cls ++ [0#8] ++
        leBytes 4 r.closing ++ leBytes 4 g.tag.toNat
      let write := Out.hostWrite (x.complBase.toNat + 32 * x.complTail) entry false
      (t.out = write :: s.out ∨ t.out = .msix x.vector :: write :: s.out) ∧ (t.queue q.val).transfer = none ∧
      (t.queue q.val).descHead = (x.descHead + g.used) % 2 ^ x.descLog2 ∧
      (t.queue q.val).complTail = (x.complTail + 1) % 2 ^ x.complLog2 ∧ (t.queue q.val).complSeq = x.complSeq + 1 ∧
      (t.queue q.val).delivered = x.delivered + 1 ∧ (t.queue q.val).fetched = x.fetched.drop g.used ∧
      (t.queue q.val).state = (if x.state = .draining then .disabled else x.state) ∧ t.record r.seq.toNat = none ∧
      t.count kHostBytesDelivered = (s.count kHostBytesDelivered + g.bytes.length) % 2 ^ 64 ∧
      t.count kHostRecordsDelivered = (s.count kHostRecordsDelivered + 1) % 2 ^ 64)) ∧
    (¬ completes → exec (.transferComplete dt q) s = .next u) ∧
    (s.delivers = true → x.line = k :: ks → s.record k = some r → s.headOf q.val = .full →
      s.conf (groupObj (q.val / 64) 9) = 0 →
      (limit ≠ 0 → (limit * 1024000 : Int) ≤ twDiff u.now r.closedAt → Runs (.waitLimitExpiry dt q) s (fun t =>
        t.record r.seq.toNat = none ∧ (ks = [] → r.seq.toNat = k → r.queue = q.val →
          (t.queue q.val).line = [] ∧ (t.queue q.val).fullCount = x.fullCount + 1 ∧
          t.count (kLossCounters 8) = (s.count (kLossCounters 8) + 1) % 2 ^ 64) ∧
        t.cfg = s.cfg ∧ t.tb = u.tb ∧ t.out = s.out)) ∧
      (limit = 0 → exec (.waitLimitExpiry dt q) s = .next u)) ∧
    (due → Runs (.moderationTimeout dt q) s sent) ∧ (¬ due → exec (.moderationTimeout dt q) s = .next u)

/-- R236 to R242, R251, R253, R258, R261, R271, R306, R417, R420: the link and its resets end every transfer; a Function Level Reset, a hot
reset and PERST_N empty the queue table, the MSI-X table and the mailbox indices and keep lines, group table and data path.
Shadow writes go to staging, clamped; an access of a wrong shape, or a read of BAR4
beyond a single-stack history, adds to BadAccess; an unmasked vector sends its message. -/
def Obligations.HostLinkAndAccesses : Prop :=
  ∀ (dt gen width mps bar offset size : Nat) (bm d0 relaxed write : Bool) (g : Fin 256) (v : Fin 2048) (value : BitVec 64) (s : State),
    let u := s.elapse dt
    let acts := s.sys.dev ≠ .powered ∧ s.sys.dev ≠ .boot
    let e := offset
    let ended := fun (t : State) => (∀ q, (t.queue q).transfer = none) ∧
      (∀ q y, s.host.queues = [(q, y)] → y.transfer ≠ none →
        t.count kHostAbortedTransfers = (s.count kHostAbortedTransfers + 1) % 2 ^ 32) ∧
      t.cfg = s.cfg ∧ t.cores = s.cores ∧ t.ports = s.ports ∧ t.tb = u.tb ∧ t.out = s.out ∧ t.hist.log = s.hist.log
    let cleared := fun (t : State) => ended t ∧ (∀ q, { t.queue q with line := [], fullCount := 0#32 } = Queue.empty) ∧
      t.host.msix = [] ∧ t.host.msixPending = [] ∧
      t.ctl = { s.ctl with reqTail := 0, reqHead := 0, respTail := 0, respHead := 0, armed := false, posted := [] } ∧
      t.count kHostFlrCount = (s.count kHostFlrCount + 1) % 2 ^ 32 ∧ t.host.busMaster = s.host.busMaster ∧ t.host.d0 = s.host.d0
    let down := fun (t : State) => t.host.gen = 0 ∧ t.host.width = 0
    (s.sys.dev ≠ .powered → s.sys.perst = false → Runs (.pcieLinkUp dt gen width bm d0 relaxed mps) s (fun t =>
      t.host.relaxed = relaxed ∧ t.host.mps = (if mps = 256 ∨ mps = 512 then mps else 128) ∧ t.host.gen = gen ∧
      t.host.width = width ∧ t.host.busMaster = bm ∧ t.host.d0 = d0 ∧ t.sys = s.sys ∧ t.cfg = s.cfg ∧ t.cores = s.cores ∧
      t.ports = s.ports ∧ t.tb = u.tb)) ∧
    (s.sys.perst = true → exec (.pcieLinkUp dt gen width bm d0 relaxed mps) s = .next u) ∧
    Runs (.pcieLinkDown dt) s (fun t => ended t ∧ down t ∧ t.sys = s.sys) ∧
    Runs (.functionLevelReset dt) s (fun t => cleared t ∧ t.host.gen = s.host.gen ∧ t.host.width = s.host.width ∧
      t.sys = s.sys) ∧
    Runs (.hotReset dt) s (fun t => cleared t ∧ down t ∧ t.sys = s.sys) ∧
    Runs (.perstN dt) s (fun t => cleared t ∧ down t ∧ t.sys = { s.sys with perst := true }) ∧
    exec (.perstNRelease dt) s = .next { u with sys := { s.sys with perst := false } } ∧
    Runs (.busMasterDisable dt) s (fun t => ended t ∧ t.host.busMaster = false ∧ t.host.d0 = s.host.d0 ∧ t.sys = s.sys) ∧
    Runs (.d3hotEntry dt) s (fun t => ended t ∧ t.host.d0 = false ∧ t.host.busMaster = s.host.busMaster ∧ t.sys = s.sys) ∧
    (acts → s.canOwns = false →
      exec (.bar0ShadowWrite dt (0x10000 + 64 * g.val) 8 value) s =
        .next { u with cfg := { s.cfg with staging := Tab.set 0 s.cfg.staging (groupKey g.val 0) value.toNat } } ∧
      Runs (.bar0ShadowWrite dt (0x10000 + 64 * g.val + 12) 4 value) s (fun t =>
        t.cfg = { s.cfg with staging := Tab.set 0 s.cfg.staging (groupKey g.val 12) (min (value.toNat % 2 ^ 32) 60000000) } ∧
        t.ctl.clampTotal = s.ctl.clampTotal + (if value.toNat % 2 ^ 32 ≤ 60000000 then 0 else 1)) ∧
      (e < 786432 → exec (.bar0ShadowWrite dt (0x400000 + 4 * e) 4 value) s =
        .next { u with cfg := { s.cfg with
          staging := Tab.set 0 s.cfg.staging (0x1000000 + e) (value.toNat % 2 ^ 24 + value.toNat / 2 ^ 31 % 2 * 2 ^ 31) } })) ∧
    (acts → s.canOwns = true → exec (.bar0ShadowWrite dt (0x10000 + 64 * g.val) 8 value) s = .next (u.bump kHostBadAccess)) ∧
    (acts → value.getLsbD 0 = false → v.val ∈ s.host.msixPending → s.delivers = true → s.hostReady = true →
      Runs (.bar0ShadowWrite dt (0x300000 + 16 * v.val + 12) 4 value) s (fun t => t.out = .msix v.val :: s.out ∧
        v.val ∉ t.host.msixPending ∧ t.count kHostInterruptsSent = (s.count kHostInterruptsSent + 1) % 2 ^ 64)) ∧
    (acts → (bar = 4 ∧ write = true) ∨ (bar ≠ 4 ∧ ((size ≠ 4 ∧ size ≠ 8) ∨ offset % size ≠ 0)) →
      exec (.badAccess dt bar write offset size) s = .next (u.bump kHostBadAccess)) ∧
    (acts → s.count kHbmDegraded = 1 → 95 < s.imm cBar4Base →
      exec (.badAccess dt 4 false offset size) s = .next (u.bump kHostBadAccess))

/-! ### Timing inputs (R348 to R361) -/

/-- R348 to R350, R352 to R359: an edge goes to the free interpolator that did not take the last one, which it keeps busy for
32 cycles; its time is tw(r - 4k + 2 - latency) + Offset with k = 128 while unlocked; an edge without an interpolator is lost
as TIN_BUSY, and one of an input whose receivers are off has no effect. A timestamp is written as
a result; a gate pairs start and stop, counts what does not pair and ends at its timeout; a frequency gate writes the
result of its edge or NO_EDGE; a change of lock is journalled. -/
def Obligations.TimingInputsMeasure : Prop :=
  ∀ (dt : Nat) (n : TinId) (falling b locked : Bool) (cycle : Fin 8) (k : BitVec 8) (e : Edge) (es : List Edge) (p : GateStart)
    (s : State),
    let u := s.elapse dt
    let x := s.tin n.val
    let r := u.tb.c + BitVec.ofNat 64 (1024 * cycle.val)
    let c := fun (j : BitVec 8) => r - BitVec.ofNat 64 (4 * j.toNat) + 2#64
    let raw : Int := tickFu * u.tb.up + 1024 * cycle.val - 4 * k.toNat + 2
    let lock := fun (i : Bool) => if i then x.lockB else x.lockA
    let kOf := fun (i : Bool) => if lock i then k else 128#8
    let te := fun (j : BitVec 8) =>
      let d := c j - BitVec.ofInt 64 (Config.tinLatency n.val falling)
      u.tb.tw d + BitVec.ofInt 64 (signed 32 (s.confAt (sliceOf (u.tb.tw d)) (cTinOffset n.val)))
    let m := fun (i : Bool) => sliceOf (te (kOf i))
    let m2 := sliceOf (u.tb.tw r)
    let free := fun (i : Bool) => match (if i then x.busyB else x.busyA) with
      | none => true
      | some z => decide (327680 ≤ raw - z)
    let taker := if free (!x.lastB) then some (!x.lastB) else if free x.lastB then some x.lastB else none
    let others := fun (t : State) => (∀ j, j ≠ n.val → t.tin j = s.tin j) ∧ t.cfg = s.cfg ∧ t.tb = u.tb ∧ t.cores = s.cores ∧
      t.ports = s.ports ∧ t.host = s.host
    let writes := fun (kind : Nat) (time value : Tw) (count : Nat) (g : Option Edge) (flags : Nat) (t : State) =>
      t.count (kTinLastResult0 n.val) = time.toNat ∧ t.count (kTinLastResult1 n.val) = value.toNat ∧
      t.count (kTinLastResult2 n.val) = count + kind * 2 ^ 32 + (bnat ((g.map (·.falling)).getD false) * 128 +
        bnat ((g.map (·.interpB)).getD false) * 32 + flags) * 2 ^ 40 + n.val * 2 ^ 48 + (g.map (·.k.toNat)).getD 0 * 2 ^ 56 ∧
      t.count (kTinLastResult3 n.val) = x.resultNo.toNat ∧ (t.tin n.val).resultNo = x.resultNo + 1 ∧
      t.count (kTinResultsWritten n.val) = (s.count (kTinResultsWritten n.val) + 1) % 2 ^ 32
    let ready := x.edges = e :: es ∧ notAfter (e.te + 0xFA000#64) u.now = true
    let pends := x.pending = some p ∧ notAfter (p.edge.te + BitVec.ofNat 64 p.timeout) e.te = false
    let period := s.confAt u.slice (cTinGatePeriod n.val)
    let gate := u.slice / period * period
    (u.inputsOn = true → (∀ i, s.confAt (m i) cInterpolatorUse = 0) →
      (∀ i, taker = some i → s.confAt (m i) (cTinMode n.val) = 1 → selects (s.confAt (m i) (cTinEdge n.val)) falling = true →
        s.gatesOf (m i) n.val = [] → Runs (.tinEdge dt n falling cycle k) s (fun t =>
          (t.tin n.val).edges.Perm (⟨.stamp, 1, te (kOf i), falling, i, kOf i, !lock i⟩ :: x.edges) ∧ (t.tin n.val).lastB = i ∧
          (t.tin n.val).busyA = (if i then x.busyA else some raw) ∧ (t.tin n.val).busyB = (if i then some raw else x.busyB) ∧
          t.count (kTinEdges n.val) = (s.count (kTinEdges n.val) + 1) % 2 ^ 64 ∧ t.hist = s.hist ∧ others t)) ∧
      (∀ i, taker = some i → s.confAt (m i) (cTinMode n.val) = 0 → s.gatesOf (m i) n.val = [] →
        exec (.tinEdge dt n falling cycle k) s = .next u) ∧
      (taker = none → s.confAt m2 (cTinMode n.val) = 1 → selects (s.confAt m2 (cTinEdge n.val)) falling = true →
        s.gatesOf m2 n.val = [] → Runs (.tinEdge dt n falling cycle k) s (fun t =>
        t.count (kTinBusyEdges n.val) = (s.count (kTinBusyEdges n.val) + 1) % 2 ^ 32 ∧ t.tins = s.tins ∧
        (s.sys.dev = .run ∨ s.sys.dev = .fenced → t.count (kLossCounters 10) = (s.count (kLossCounters 10) + 1) % 2 ^ 64) ∧
        (s.sys.dev = .standstill → t.hist = s.hist) ∧ others t))) ∧
    (u.inputsOn = false → exec (.tinEdge dt n falling cycle k) s = .next u) ∧
    (x.edges = e :: es → e.kind = .stamp → Runs (.tinEdgeHandled dt n) s (fun t =>
      writes 1 e.te 0#64 0 (some e) (bnat e.unlocked * 64) t ∧ (t.tin n.val).edges = es ∧
      (s.confAt (sliceOf e.te) (cTinRoute n.val) ≠ 1 → t.trig = s.trig) ∧ others t)) ∧
    (ready → e.kind = .start →
      (x.pending = none → Runs (.tinEdgeHandled dt n) s (fun t => t.tin n.val = { x with
        edges := es, pending := some ⟨e, false, s.confAt (sliceOf e.te) (cTinTimeout n.val)⟩ } ∧
        (∀ j, j ≠ n.val → t.tin j = s.tin j) ∧ { t with tins := s.tins } = u)) ∧
      (pends → exec (.tinEdgeHandled dt n) s = .next ((u.setTin n.val { x with edges := es }).bump (kTinStartIgnored n.val)))) ∧
    (ready → e.kind = .stop →
      (x.pending = none → exec (.tinEdgeHandled dt n) s =
        .next ((u.setTin n.val { x with edges := es }).bump (kTinStopUnpaired n.val))) ∧
      (pends → Runs (.tinEdgeHandled dt n) s (fun t =>
        writes 2 p.edge.te (e.te - p.edge.te) 0 (some p.edge)
          (bnat (p.edge.unlocked || e.unlocked) * 64 + bnat p.missed * 16) t ∧
        (t.tin n.val).pending = none ∧ (t.tin n.val).edges = es ∧
        (s.confAt (sliceOf e.te) (cTinRoute n.val) ≠ 2 → t.trig = s.trig) ∧ others t))) ∧
    (x.pending = some p → notAfter (p.edge.te + BitVec.ofNat 64 p.timeout + 0xFA000#64) u.now = true →
      (∀ f ∈ x.edges, before f.te (p.edge.te + BitVec.ofNat 64 p.timeout) = false) → Runs (.gateTimeout dt n) s (fun t =>
        writes 3 p.edge.te (BitVec.ofNat 64 p.timeout) 0 (some p.edge) (bnat p.edge.unlocked * 64 + bnat p.missed * 16) t ∧
        t.count (kTinTimeouts n.val) = (s.count (kTinTimeouts n.val) + 1) % 2 ^ 32 ∧ (t.tin n.val).pending = none ∧
        t.trig = s.trig ∧ others t)) ∧
    (u.inputsOn = true → s.confAt u.slice (cTinMode n.val) = 3 → x.fGate ≠ 0 → sliceLt (x.fGate - 1) gate = true →
      Runs (.frequencyGate dt n) s (fun t =>
        (∀ q, x.fResult = some q → writes 4 q.edge.te q.value q.count (some q.edge)
          (bnat q.edge.unlocked * 64 + bnat q.first * 4) t) ∧
        (x.fResult = none → x.fWant = true → writes 5 (sliceStart gate) 0#64 0 none 0 t) ∧
        (t.tin n.val).fGate = gate + 1 ∧ (t.tin n.val).fWant = true ∧ (t.tin n.val).fResult = none ∧ others t)) ∧
    (u.timerPower = true → (if b then x.lockB else x.lockA) ≠ locked → Runs (.interpLockChange dt n b locked) s (fun t =>
      Journals (if locked then 0x0902 else 0x0901) n.val (jdata [(0, bnat b)])
        ((u.setTin n.val (if b then { x with lockB := locked } else { x with lockA := locked })).bump kLockLosses
          (bnat (!locked))) t))

/-! ### Monitor front end (R364 to R389) -/

/-- R366, R367, R369, R370, R372, R374 to R378, R380, R382: the monitor starts 2 ms after power-up with the first entry; a window
ends in a published result with the trimmed, clipped code at the middle of the window, or in the first half of an alternated
one, or in a lower range; a wire-break check above half scale marks the channel broken; an injected start is ignored, lost,
delayed or runs at once. -/
def Obligations.ConversionsRunAndReport : Prop :=
  ∀ (dt : Nat) (raw : Int) (ch : Fin 40) (j : Fin 16) (t0 : BitVec 64) (rest : List (BitVec 64)) (half : Half)
    (s : State),
    let u := s.elapse dt
    let m := s.mon
    let e := m.current
    let a := m.started
    let w := 3 * osrOf e.rate
    let r := s.rangeOf ch.val
    let code := fun (r : Nat) => if m.trimValid then Config.trimmed ch.val r raw else Config.nominal ch.val r raw
    let clip := fun (v : Int) => max (-8388607) (min 8388607 v)
    let clipped := decide (8388607 < code r) || decide (code r < -8388607)
    let size := (clip (code r)).natAbs
    let centre := a + BitVec.ofNat 64 (w * 1024000 / 2)
    let entries := fun (first len : Nat) => (List.range len).map (fun i => s.monEntry (first + i))
    let kept := fun (t : State) => t.cfg = s.cfg ∧ t.tb = u.tb ∧ t.hist = s.hist ∧ t.trig = s.trig ∧ t.cores = s.cores ∧
      t.ports = s.ports ∧ t.host = s.host ∧ t.out = s.out
    let window := m.phase = .converting ∧ u.reached a w = true ∧ e.channel = ch.val ∧ (m.injected = true → m.entry = j.val)
    let word := fun (v : Int) (alt exc clipped : Bool) => (BitVec.ofInt 24 v).toNat * 2 ^ 40 + r * 2 ^ 37 +
      (bnat (!m.trimValid) + 2 * bnat m.injected + 4 * bnat alt + 8 * bnat exc + 16 * bnat (m.broken.contains ch.val) +
        32 * bnat clipped) * 2 ^ 31 + ch.val * 2 ^ 24 + m.entry * 2 ^ 16 + Tab.get 0 m.numbers ch.val % 65536
    let mode := s.conf cMonInjectedMode
    let begins := fun (t : State) => t.mon.injected = true ∧ t.mon.phase = .settling ∧ t.mon.entry = 0 ∧ t.mon.started = t0 ∧
      t.mon.injEntries = entries 64 (s.conf cMonInjectedLength) ∧ t.mon.injStarts = rest ∧
      t.count kMonInjectedRuns = (s.count kMonInjectedRuns + 1) % 2 ^ 32 ∧ kept t
    (m.phase = .waiting → u.reached a 2000 = true → Runs (.monitorStart dt) s (fun t =>
      t.mon.trimValid = m.trimValid ∧ kept t ∧
      (s.conf cMonRegularMode = 1 → 0 < s.conf cMonRegularLength → s.sys.dev ≠ .fault → t.mon.phase = .settling ∧
        t.mon.entry = 0 ∧ t.mon.started = u.edge ∧ t.mon.passRunning = true ∧ t.mon.injected = false ∧
        t.mon.regular = entries 0 (s.conf cMonRegularLength)) ∧
      (s.conf cMonRegularMode = 0 → t.mon.phase = .idle))) ∧
    (m.phase = .settling → u.reached a e.settle = true → exec (.settleEnd dt) s =
      .next { u with mon := { m with phase := .converting, started := a + BitVec.ofNat 64 (e.settle * 1024000) } }) ∧
    (window → s.alternates ch.val = false →
      (s.autoRange ch.val = true → m.reload = none → m.injWait = false → Runs (.conversionResult dt raw) s (fun t =>
        (if clipped && decide (0 < r) then
          t.count (kChCurrentRange ch.val) = r - 1 ∧ t.count (kChResults ch.val) = s.count (kChResults ch.val) ∧
          t.mon = { m with phase := .settling, started := a + BitVec.ofNat 64 (w * 1024000), half := none }
        else
          t.count (kChCurrentRange ch.val) = (if 7549747 < size ∧ 0 < r then r - 1 else if size < 3355443 ∧ r < 7 then r + 1 else r) ∧
          t.count (kChResults ch.val) = (s.count (kChResults ch.val) + 1) % 2 ^ 32 ∧
          t.count (kChLastResult1 ch.val) = word (clip (code r)) false (s.excIn ch.val a) clipped) ∧ kept t)) ∧
      (s.autoRange ch.val = false → m.reload = none → Runs (.conversionResult dt raw) s (fun t =>
        t.count (kChLastResult0 ch.val) = (u.tb.tw centre).toNat ∧
        t.count (kChLastResult1 ch.val) = word (clip (code r)) false (s.excIn ch.val a) clipped ∧
        t.count (kChResults ch.val) = (s.count (kChResults ch.val) + 1) % 2 ^ 32 ∧
        Tab.get 0 t.mon.numbers ch.val = (Tab.get 0 m.numbers ch.val + 1) % 65536 ∧ kept t))) ∧
    (window → s.alternates ch.val = true → m.injWait = false →
      (m.half = none → exec (.conversionResult dt raw) s = .next { u with mon := { m with
        phase := .settling, started := a + BitVec.ofNat 64 (w * 1024000)
        half := some ⟨clip (code r), clipped, s.excIn ch.val a, centre⟩ } }) ∧
      (m.half = some half → s.autoRange ch.val = false → m.reload = none → Runs (.conversionResult dt raw) s (fun t =>
        t.count (kChLastResult0 ch.val) =
          (u.tb.tw (half.centre + BitVec.ofNat 64 ((centre - half.centre).toNat / 2))).toNat ∧
        t.count (kChLastResult1 ch.val) = word (roundEven (half.code - clip (code r)) 2) true
          (half.exc || s.excIn ch.val a) (half.clipped || clipped) ∧
        t.count (kChResults ch.val) = (s.count (kChResults ch.val) + 1) % 2 ^ 32 ∧ kept t))) ∧
    (m.phase = .checking → u.reached a 950 = true → e.channel = ch.val → Runs (.breakCheckDone dt raw) s (fun t =>
      t.count kMonChecksRun = (s.count kMonChecksRun + 1) % 2 ^ 32 ∧
      (ch.val ∈ t.mon.broken ↔ 4194304 < clip (code 0)) ∧
      (∀ c, c ≠ ch.val → (c ∈ t.mon.broken ↔ c ∈ m.broken)) ∧
      t.ctl.jCount = s.ctl.jCount + (if 4194304 < clip (code 0) then 1 else 0) ∧ kept t)) ∧
    (m.injStarts = t0 :: rest → u.reached t0 0 = true →
      (s.conf cMonInjectedEnable ≠ 1 ∨ u.monRuns = false → exec (.injectedSequenceBegin dt) s =
        .next (({ u with mon := { m with injStarts := rest } } : State).bump kMonInjectedIgnored)) ∧
      (s.conf cMonInjectedEnable = 1 → u.monRuns = true →
        (m.injected = true ∨ m.injWait = true → exec (.injectedSequenceBegin dt) s =
          .next (({ u with mon := { m with injStarts := rest } } : State).bump kMonInjectedOverrun)) ∧
        (m.injected = false → m.injWait = false →
          (m.regularBusy = true → mode = 1 → exec (.injectedSequenceBegin dt) s =
            .next { u with mon := { m with
              injStarts := rest, injWait := true, injEntries := entries 64 (s.conf cMonInjectedLength) } }) ∧
          (m.regularBusy = false ∨ mode ≠ 1 → 0 < s.conf cMonInjectedLength → s.sys.dev ≠ .fault →
            Runs (.injectedSequenceBegin dt) s begins))))

/-- R368, R370, R377, R380, R381, R385: a driver in current mode sources its level outside an alternated conversion, and every
driver is at high impedance without power and in FAULT. An excitation fault of a condition that its drive mode can meet sets its bit, counts and is
journalled, and clears after its absence; a voltage driver in fault is switched off or tried again. A trim comparison that
fails reloads the trim; results wait for the reload and are published at its end. -/
def Obligations.ExcitationFaultsAndTrim : Prop :=
  ∀ (dt : Nat) (k : Fin 8) (cond : BitVec 3) (mismatch fuseOk : Bool) (c : BitVec 64) (r : MonResult) (ch : Fin 40) (s : State),
    let u := s.elapse dt
    let m := s.mon
    let bit := 1#8 <<< k.val
    let mode := s.conf (cExcMode k.val)
    let met := cond &&& (if mode = 1 then 3#3 else if mode = 2 then 4#3 else 0#3)
    let compares := m.power = true ∧ m.phase ≠ .waiting
    (m.power = false ∨ s.sys.dev = .fault → s.excDrive k.val = .highZ) ∧
    (m.power = true → s.sys.dev ≠ .fault → mode = 2 → s.alternates m.current.channel = false →
      s.excDrive k.val = .source (s.conf (cExcCurrentLevel k.val))) ∧
    (m.power = true → s.sys.dev ≠ .fault → m.excStatus.getLsbD k.val = false → met ≠ 0#3 →
      Runs (.excFault dt k cond) s (fun t => Journals 0x0A03 k.val (jdata [(0, mode), (1, met.toNat)])
        (({ u with mon := { m with excStatus := m.excStatus ||| bit } } : State).bump kMonExcFaults) t)) ∧
    (m.power = false ∨ m.excStatus.getLsbD k.val = true ∨ met = 0#3 → exec (.excFault dt k cond) s = .next u) ∧
    (m.excStatus.getLsbD k.val = true → exec (.excFaultClear dt k) s = .next { u with mon := { m with
      excStatus := m.excStatus &&& ~~~bit, excCleared := Tab.put m.excCleared k.val u.tb.c } }) ∧
    (exec (.excDriverOff dt k true) s = .next { u with mon := { m with excOff := m.excOff &&& ~~~bit } }) ∧
    (mode = 1 → m.excStatus.getLsbD k.val = true →
      exec (.excDriverOff dt k false) s = .next { u with mon := { m with excOff := m.excOff ||| bit } }) ∧
    (mode ≠ 1 → exec (.excDriverOff dt k false) s = .next u) ∧
    (compares → mismatch = true → Runs (.trimCompare dt mismatch fuseOk) s (fun t =>
      t.mon = { m with reload := some u.tb.c, trimValid := fuseOk, trimError := m.trimError || !fuseOk } ∧
      t.count kMonTrimReloads = (s.count kMonTrimReloads + 1) % 2 ^ 32 ∧
      t.ctl.jCount = s.ctl.jCount + (if fuseOk || m.trimError then 1 else 2) ∧ t.cfg = s.cfg ∧ t.tb = u.tb)) ∧
    (compares → mismatch = false → fuseOk = true → exec (.trimCompare dt mismatch fuseOk) s = .next u) ∧
    (compares → mismatch = false → fuseOk = false → Runs (.trimCompare dt mismatch fuseOk) s (fun t =>
      t.mon = { m with trimValid := false, trimError := true } ∧
      t.ctl.jCount = s.ctl.jCount + (if m.trimError then 0 else 1))) ∧
    (m.reload = some c → u.reached c 20 = true →
      (m.held = [] → exec (.trimReloadDone dt) s = .next { u with mon := { m with reload := none } }) ∧
      (m.held = [r] → r.chan = ch.val → r.injected = false → Runs (.trimReloadDone dt) s (fun t =>
        t.mon.reload = none ∧ t.mon.held = [] ∧ t.count (kChLastResult0 ch.val) = r.time.toNat ∧
        t.count (kChLastResult1 ch.val) = r.word1 (Tab.get 0 m.numbers ch.val) ∧
        t.count (kChResults ch.val) = (s.count (kChResults ch.val) + 1) % 2 ^ 32)))

/-! ### Light drive (R390 to R402) -/

/-- R391 to R396, R402: at a dimming slot the sinks that are on and whose reversed slot number lies below their Dim are lit, and the
voltages across driven sinks are kept at their smallest; LED_OUT moves towards its target by at most 2 V up and 0.5 V down
each 100 µs and rests with the boost off; above 50 V the switch stops until 48.5 V; a sink fault whose condition holds is
latched, counted and journalled; LOW_HEADROOM is set at the highest voltage. -/
def Obligations.SinksAndBoost : Prop :=
  ∀ (dt v mv : Nat) (k : SinkId) (cause : SinkCause) (volts : List (SinkId × Nat)) (s : State),
    let u := s.elapse dt
    let l := s.light
    let ok := fun (j : Nat) => u.lightPower && decide (s.conf (cSinkEnable j) = 1) && decide (l.fault j = 0)
    let slot := u.now.toNat / 262144 % 4096
    let w := l.ledOut + s.conf cLightHeadroom - v
    let target := min 48000 (max w (Config.vledIn + 300))
    let out := if l.ovp then l.ledOut else if l.ledOut < target then min target (l.ledOut + 2000) else max target (l.ledOut - 500)
    let current := if k.val ∈ l.flashing then s.conf (cSinkFlashCurrent k.val) else s.conf (cSinkDimCurrent k.val)
    let field := match cause with | .open => 1 | .short => 2 | .dissipation => 3
    let holds := match cause with
      | .open => decide (mv < 100) && decide (s.count kLightBoostAtMax = 1)
      | .short => decide (l.ledOut < mv + s.conf cLightShortLimit)
      | .dissipation => decide (400000000 < mv * current)
    let low := s.count kLightLowHeadroom
    (u.lightPower = true → Runs (.dimSlot dt volts) s (fun t =>
      (∀ j : SinkId, t.light.slotLit.getLsbD j.val =
        (decide (bitreverse12 ((slot + 256 * j.val) % 4096) < s.conf (cSinkDim j.val)) && ok j.val)) ∧
      (volts = [(k, v)] → ok k.val = true → l.slotLit.getLsbD k.val = true ∨ k.val ∈ l.flashing ∨ k.val ∈ l.flashed →
        Tab.look t.light.samples k.val = some (min v ((Tab.look l.samples k.val).getD v))) ∧
      (volts = [] → t.light.samples = l.samples) ∧ t.light.flashed = [] ∧ t.light.ledOut = l.ledOut ∧
      t.light.faults = l.faults ∧ { t with light := l } = u)) ∧
    (u.lightPower = true →
      (s.conf cLightBoostEnable = 1 → s.sys.vled = true → s.flashNeeds = [] → l.samples = [(k.val, v)] →
        exec (.boostUpdate dt) s = .next ((u.setLight { l with samples := [], ledOut := out }).setStat kLightBoostAtMax
          (if 48000 ≤ w then 1 else 0))) ∧
      (s.conf cLightBoostEnable ≠ 1 ∨ s.sys.vled = false → exec (.boostUpdate dt) s =
        .next ((u.setLight { l with samples := [], ledOut := Config.vledIn - Config.diodeDrop }).setStat kLightBoostAtMax 0)) ∧
      (l.ovp = false → 50000 < mv → Runs (.boostOvp dt mv) s (fun t => Journals 0x0B02 srcDevice (jdata [(4, mv)])
        ((u.setLight { l with ovp := true, ledOut := mv }).bump kLightOvervoltage) t)) ∧
      (l.ovp = true → mv < 48500 → exec (.boostOvp dt mv) s = .next (u.setLight { l with ovp := false, ledOut := mv })) ∧
      (l.ovp = true → 48500 ≤ mv → exec (.boostOvp dt mv) s = .next u)) ∧
    (ok k.val = true → holds = true → Runs (.sinkFault dt k cause mv) s (fun t =>
      ∃ y : Light, Journals 0x0B01 k.val (jdata [(0, field), (4, mv)]) ((u.setLight y).bump kLightFaultEvents) t ∧
        y.fault k.val = field ∧ (∀ j, j < 12 → j ≠ k.val → y.fault j = l.fault j) ∧ y.slotLit.getLsbD k.val = false ∧
        k.val ∉ y.flashing ∧ y.ledOut = l.ledOut)) ∧
    (ok k.val = false ∨ holds = false → exec (.sinkFault dt k cause mv) s = .next u) ∧
    (ok k.val = true → s.count kLightBoostAtMax = 1 → low / 2 ^ k.val % 2 = 0 →
      exec (.lowHeadroom dt k true) s = .next (u.setStat kLightLowHeadroom (low + 2 ^ k.val))) ∧
    (low / 2 ^ k.val % 2 = 1 → exec (.lowHeadroom dt k false) s = .next (u.setStat kLightLowHeadroom (low - 2 ^ k.val)))

/-- R398 to R401: a lamp command ends with a response whose CRC and address hold, or as a broadcast, or after its retries as
NO_RESPONSE; a FLASH frame for group 63 begins at its time, moved so that its 41st rising edge, 40.5 bits after its begin, lies
on the nearest tick, and carries source and pulse number; at its end a waiting command is sent. -/
def Obligations.LampBusTransactions : Prop :=
  ∀ (dt k : Nat) (a : Tw) (r : BitVec 32) (c : LampCmd) (response : Option (BitVec 32)) (s : State),
    let u := s.elapse dt
    let l := s.light
    let address := fun (v : BitVec 32) => v.toNat / 2 ^ 26
    let frame := fun (v : BitVec 32) => BitVec.ofNat 40 (v.toNat * 256 + (crc8 (bitsMsb 32 v.toNat)).toNat)
    let good := fun (r : BitVec 32) => r ≠ 0xFFFFFFFF#32 ∧ (crc8 (bitsMsb 24 (r.toNat / 256))).toNat = r.toNat % 256 ∧
      address r = address c.frame
    let done := fun (outcome : Nat) (r : BitVec 32) (s : State) => (s.setLight { l with lamp := none }).setStat kLightLampResult
      (l.lampNo.toNat * 2 ^ 48 + outcome * 2 ^ 40 + c.attempts * 2 ^ 32 + r.toNat)
    let flash := BitVec.ofNat 32 (63 * 2 ^ 26 + 2 * 2 ^ 24 + s.conf cLampFlashSource * 2 ^ 16 + k % 65536)
    let span := BitVec.ofNat 64 (81 * (if s.conf cLampRate = 0 then 10240000 else 1024000) / 2)
    (l.lamp = some c → c.sent = true →
      (address c.frame = 63 → exec (.lampResponse dt response) s = .next (done 2 0#32 u)) ∧
      (address c.frame ≠ 63 → good r → exec (.lampResponse dt (some r)) s = .next (done 0 r u)) ∧
      (address c.frame ≠ 63 → (∀ r, response = some r → ¬ good r) →
        (c.attempts ≤ s.conf cLampRetries → exec (.lampResponse dt response) s =
          .next (((u.bump kLightLampCrcErrors).setLight { l with lamp := some { c with attempts := c.attempts + 1 } }).emit
            (.lampFrame (frame c.frame) u.now))) ∧
        (s.conf cLampRetries < c.attempts → exec (.lampResponse dt response) s =
          .next (done 1 0#32 ((u.bump kLightLampCrcErrors).bump kLightLampNoResponse))))) ∧
    (l.flashAt = some (k, a) → u.due a = true → u.lampOn = true →
      (l.flashOnBus = false → exec (.lampFlashFrame dt) s =
        .next ((u.setLight { l with flashAt := none, flashOnBus := true }).emit
          (.lampFrame (frame flash) (u.nearTick (a + span) - span)))) ∧
      (l.flashOnBus = true → exec (.lampFlashFrame dt) s =
        .next ((u.setLight { l with flashAt := none }).bump kLightLampLate))) ∧
    (l.flashOnBus = true →
      (l.lamp = none → exec (.lampFlashFrameEnd dt) s = .next (u.setLight { l with flashOnBus := false })) ∧
      (l.lamp = some c → c.sent = false → u.lampOn = true → l.flashAt = none → exec (.lampFlashFrameEnd dt) s =
        .next ((u.setLight { l with flashOnBus := false, lamp := some { c with sent := true, attempts := 1 } }).emit
          (.lampFrame (frame c.frame) u.now)))) ∧
    (l.flashOnBus = false → exec (.lampFlashFrameEnd dt) s = .next u)

/-! ### Twin operation (R315 to R343) -/

/-- R315, R319 to R324, R342, R343: a lease message counts only as a well-formed frame of its class from node 254, on a paired
unit that runs; every term that is seen raises HighestTerm, and a higher one fences a mainmast; a GRANT is ignored with its
reason, renews the lease of its term, or is accepted with a takeover slice 8 slices ahead once HELM_IN is high; an ASSIGN
FENCED, an expired lease and HELM_IN low fence a mainmast with their cause; STATUS reports; an overdue drill is journalled once
a day. -/
def Obligations.LeaseGrantsAndFences : Prop :=
  ∀ (dt : Nat) (f : CanFrame) (w : BitVec 32) (helm : Bool) (l : Lease) (h : HelloMsg) (s : State),
    let u := s.elapse dt
    let v : State := { u with twin := { s.twin with helm := helm } }
    let term := BitVec.ofNat 32 (leAt f.data 0 4)
    let us := leAt f.data 4 4
    let age := fun (c : BitVec 64) => (u.tb.c - c).toNat
    let hears := fun (cls : Nat) => f.extended = true ∧ f.fd = true ∧ f.brs = true ∧ f.data.length = 64 ∧
      f.id.toNat / 2 ^ 24 = cls ∧ f.id.toNat % 256 = 254 ∧ s.paired = true ∧ s.sys.dev ≠ .powered ∧ s.sys.dev ≠ .boot
    let mine := fun (cls : Nat) => hears cls ∧ f.id.toNat / 256 % 256 = s.ownNode ∧
      BitVec.ofNat 64 (leAt f.data 8 8) = Config.serial
    let high := s.twin.highest
    let time := s.conf cLeaseTime
    let valid := s.twin.lease = some l ∧ age l.renewed < time * 1024000
    let fenced := fun (cause : Nat) (t : State) => t.sys.role = .fenced ∧
      t.sys.dev = (if s.sys.dev = .run then .fenced else s.sys.dev) ∧ t.count kLastFenceCause = cause ∧
      t.count kFences = (s.count kFences + 1) % 2 ^ 32 ∧ (∀ q, (t.queue q).transfer = none) ∧
      t.ctl.jCount = s.ctl.jCount + 2 ∧ t.cfg = s.cfg ∧ t.tb = u.tb ∧ t.cores = s.cores
    let c := roundUpSlice (u.now + 0x800000#64)
    let accepts := fun (x : BitVec 32) (ready : Nat) (t : State) => ({ t with twin := { t.twin with
      helm := true, highest := x, lease := some ⟨x, u.tb.c⟩, waiting := none, takeoverAt := some c
      grantReady := ready } } : State).say (.takeover x c)
    let usable := if s.twin.ready = 2 ∨ s.twin.ready = 4 then s.twin.ready else 0
    let ignored := fun (reason : Nat) (x : BitVec 32) (t : State) => Journals 0x080D srcDevice
      (jdata [(0, reason), (4, x.toNat)]) (t.bump kLeaseIgnored)
    let status := leBytes 4 high.toNat ++ leBytes 1 s.sys.role.num ++ leBytes 1 s.sys.dev.num ++ leBytes 1 s.readyShown ++
      leBytes 1 (bnat s.twin.partnerUp + 2 * bnat s.twin.helm + 4 * bnat u.leaseValid + 8 * bnat s.eligible) ++
      leBytes 8 Config.serial.toNat ++ leBytes 6 s.hist.newest ++ leBytes 2 0 ++ leBytes 8 s.completedThrough.toNat ++
      leBytes 4 u.leaseRemaining
    (¬ hears 0 → exec (.grant dt f helm) s = .next v) ∧
    (mine 0 → s.sys.dev ≠ .fault →
      (term.toNat < high.toNat → Runs (.grant dt f helm) s (ignored 1 term v)) ∧
      (term = high → us ≠ time → Runs (.grant dt f helm) s (ignored 2 term v)) ∧
      (high.toNat < term.toNat → us ≠ time → s.sys.role ≠ .mainmast → Runs (.grant dt f helm) s
        (ignored 2 term { v with twin := { v.twin with highest := term } })) ∧
      (term = high → us = time → valid → l.term = term → exec (.grant dt f helm) s =
        .next { v with twin := { v.twin with lease := some ⟨term, u.tb.c⟩ } }) ∧
      (high.toNat < term.toNat → us = time →
        (s.sys.role ≠ .mainmast → helm = true → exec (.grant dt f helm) s = .next (accepts term usable v)) ∧
        (s.sys.role ≠ .mainmast → helm = false → exec (.grant dt f helm) s =
          .next { v with twin := { v.twin with highest := term, waiting := some term, waitC := u.tb.c } }) ∧
        (s.sys.role = .mainmast → helm = true → Runs (.grant dt f helm) s (fun t => fenced 3 t ∧ t.twin.highest = term ∧
          t.twin.lease = some ⟨term, u.tb.c⟩ ∧ t.twin.takeoverAt = some c)))) ∧
    (hears 0 → f.id.toNat / 256 % 256 ≠ s.ownNode →
      (term.toNat ≤ high.toNat → exec (.grant dt f helm) s = .next v) ∧
      (high.toNat < term.toNat → s.sys.role = .mainmast → Runs (.grant dt f helm) s (fun t => fenced 3 t ∧
        t.twin.highest = term ∧ t.twin.lease = none ∧ t.twin.ready = (if s.twin.partnerUp then 2 else 0))) ∧
      (high.toNat < term.toNat → s.sys.role ≠ .mainmast → exec (.grant dt f helm) s =
        .next { v with twin := { v.twin with highest := term } })) ∧
    (s.twin.waiting = some w →
      (age s.twin.waitC ≤ 1024000000 → high.toNat ≤ w.toNat →
        exec (.helmInHigh dt) s = .next (accepts w (if high = 0#32 then s.twin.ready else usable) u)) ∧
      (age s.twin.waitC ≤ 1024000000 → w.toNat < high.toNat → Runs (.helmInHigh dt) s
        (ignored 1 w { u with twin := { s.twin with helm := true, waiting := none } })) ∧
      (1024000000 < age s.twin.waitC → Runs (.grantHelmTimeout dt) s
        (ignored 3 w { u with twin := { s.twin with waiting := none } }))) ∧
    (s.twin.waiting = none → exec (.helmInHigh dt) s = .next { u with twin := { s.twin with helm := true } } ∧
      exec (.grantHelmTimeout dt) s = .next u) ∧
    (mine 1 → leAt f.data 4 1 = 2 → s.sys.role = .fenced → s.sys.dev ≠ .fault → high.toNat ≤ term.toNat →
      s.twin.partnerUp = true → s.twin.partner = some h → h.role = 1#8 → h.term = term → Runs (.assignMizzen dt f) s (fun t =>
        t.sys.role = .mizzen ∧ t.sys.dev = (if s.sys.dev = .fenced then .run else s.sys.dev) ∧ t.twin.highest = term ∧
        t.twin.deciding = false ∧ t.twin.following = !s.twin.left ∧ t.ctl.jCount = s.ctl.jCount + 1 ∧ t.cfg = s.cfg ∧
        t.tb = u.tb ∧ t.hist = s.hist)) ∧
    (mine 1 → leAt f.data 4 1 = 3 →
      (s.sys.role = .mainmast → Runs (.assignFenced dt f) s (fenced 5)) ∧
      (s.sys.role = .mizzen → Runs (.assignFenced dt f) s (fun t => t.sys.role = .fenced ∧
        t.sys.dev = (if s.sys.dev = .run then .fenced else s.sys.dev) ∧
        t.twin.highest = (if high.toNat < term.toNat then term else high) ∧ t.cfg = s.cfg ∧ t.tb = u.tb))) ∧
    (¬ hears 1 → exec (.assignMizzen dt f) s = .next u ∧ exec (.assignFenced dt f) s = .next u) ∧
    (valid → exec (.leaseExpired dt) s = .next u) ∧
    (s.sys.role = .mainmast → (∀ x, s.twin.lease = some x → time * 1024000 ≤ age x.renewed) →
      Runs (.leaseExpired dt) s (fenced 1)) ∧
    (s.sys.role = .mainmast → Runs (.helmLow dt) s (fun t => fenced 2 t ∧ t.twin.helm = false)) ∧
    (s.sys.role ≠ .mainmast → exec (.helmLow dt) s = .next { u with twin := { s.twin with helm := false } }) ∧
    (s.paired = true → s.sys.dev ≠ .powered → s.sys.dev ≠ .boot → exec (.status dt) s =
      .next ((u.emit (.can .a (canId 2 254 s.ownNode) (pad64 status))).emit (.can .b (canId 2 254 s.ownNode) (pad64 status)))) ∧
    (s.sys.role = .mizzen → s.conf cDrillWarn ≠ 0 → s.conf cDrillWarn * 86400 < u.takeoverAge →
      s.twin.overdueDay ≠ u.tb.up / 10800000000000 + 1 → Runs (.drillOverdue dt) s (Journals 0x080C srcDevice
        (jdata [(0, u.takeoverAge / 86400)]) { u with twin := { s.twin with overdueDay := u.tb.up / 10800000000000 + 1 } })) ∧
    (s.sys.role ≠ .mizzen → exec (.drillOverdue dt) s = .next u)

/-- R316, R318, R321, R327 to R329, R333, R334, R337 to R339, R343: the takeover slice makes the unit MAINMAST, marks its records
for replay or loses hollow ones; a follower takes SLICE, DIGEST, DELAY and START from the stream, compares digests, and decides
for itself after MizzenWait; TAKEOVER and HELLO of the partner show roles and terms, a higher term fences a mainmast, and a
partner that holds the mast ends the unit's own decisions. HELLO goes out as a message of 24 bytes in one DATA frame. -/
def Obligations.FollowersAndTakeover : Prop :=
  ∀ (dt n c k frame g level : Nat) (da : Int) (p : PortId) (l : Fin 4) (trigs : List FwdTrigger) (pl : List Placement)
    (dg q : BitVec 64) (num term : BitVec 32) (hm : HelloMsg) (e : IndexEntry) (r : Record) (b rest : List Byte) (s : State),
    let u := s.elapse dt
    let w := s.twin
    let x := s.port p.val
    let v : State := { u with twin := { w with rxBytes := rest } }
    let arrives := fun (ty : Nat) (y : StayMsg) =>
      firstMsg w.rxBytes.length w.rxBytes = some (⟨ty, num, b⟩, rest) ∧ stayMsgOf ty b = some y
    let listens := s.paired = true ∧ (w.following = true ∨ w.joining = true) ∧ w.left = false ∧ w.partnerUp = true
    let compares := listens ∧ w.following = true ∧ (s.sys.role = .mizzen ∨ w.joining = true ∨ w.ready ≠ 0)
    let high := w.highest
    let m := s.hist.nextClose
    let seen := fun (b : BitVec 32) => if high.toNat < b.toNat then b else high
    let fenced := fun (t : State) => t.sys.role = .fenced ∧ t.count kLastFenceCause = 4 ∧
      t.count kFences = (s.count kFences + 1) % 2 ^ 32 ∧ (∀ j, (t.queue j).transfer = none)
    let stores := { x with timing := { x.timing with forwarded := Tab.put x.timing.forwarded frame da } }
    let takes := { x with timing := { x.timing with
      da := some da, waiting := none, missing := false, forwarded := x.timing.forwarded.filter (fun y => frame < y.1) } }
    let hello : HelloMsg := ⟨BitVec.ofNat 8 s.sys.role.num, high, true, BitVec.ofNat 8 s.readyShown, Config.serial⟩
    let bytes := leBytes 1 10 ++ leBytes 1 0 ++ leBytes 2 16 ++ leBytes 4 (w.msgNo + 1).toNat ++ leBytes 1 s.sys.role.num ++
      leBytes 1 s.readyShown ++ leBytes 1 1 ++ leBytes 1 0 ++ leBytes 4 high.toNat ++ leBytes 8 Config.serial.toNat
    let control : Word := match w.rxSeq with | some z => BitVec.ofNat 64 (z.toNat * 2 ^ 54 + 2 ^ 53) | none => 0#64
    let words := control :: (List.range 31).map (fun i => BitVec.ofNat 64 (leAt bytes (8 * i) 8))
    let wire := ((Tab.get Port.empty s.stay l.val).tx.send (frameBits w.txSeq (frameType false 1) words)).2
    (w.takeoverAt = some c → sliceLe c u.slice = true → s.sys.role = .fenced ∨ s.sys.role = .mizzen →
      s.sys.dev ≠ .fault → Runs (.takeover dt) s (fun t =>
        t.sys.role = .mainmast ∧ t.sys.dev = (if s.sys.dev = .fenced then .run else s.sys.dev) ∧ t.twin.takeoverAt = none ∧
        t.twin.deciding = true ∧ t.twin.following = false ∧ t.twin.ready = 0 ∧ t.twin.takeoverC = some u.tb.up ∧
        t.count kTakeovers = (s.count kTakeovers + 1) % 2 ^ 32 ∧ t.count kLastTakeoverSlice = c ∧
        t.ctl.jCount = s.ctl.jCount + 2 ∧ t.cfg = s.cfg ∧ t.tb = u.tb ∧ t.hist.log = s.hist.log ∧
        (s.trig.records = [] → t.count kReplaySetSize = 0) ∧
        (s.trig.records = [(k, r)] → sliceLt r.closing c = true →
          (r.hollow = false → t.count kReplaySetSize = 1 ∧ ∀ y, t.record k = some y → y.replay = true) ∧
          (r.hollow = true → t.trig.records = [] ∧
            t.count (kLossCounters 9) = (s.count (kLossCounters 9) + 1) % 2 ^ 64)))) ∧
    (w.takeoverAt = none → exec (.takeover dt) s = .next u) ∧
    (arrives 1 (.slice n level trigs pl) →
      (listens → sliceLt n m = false ∨ s.hist.nextSeal = none → exec (.slice dt) s = .next { v with twin := { v.twin with
        slices := Tab.put w.slices n (level % 4, trigs, ((Tab.look w.slices n).map (fun y => y.2.2)).getD [] ++ pl)
        sliceRx := n } }) ∧
      (¬ listens → exec (.slice dt) s = .next v)) ∧
    (arrives 2 (.digest n dg q) →
      (¬ compares → exec (.digest dt) s = .next v) ∧
      (compares → s.indexed n = none → exec (.digest dt) s =
        .next { v with twin := { v.twin with digests := Tab.put w.digests n (dg, q) } }) ∧
      (compares → s.indexed n = some e → w.joining = false → Runs (.digest dt) s (fun t =>
        t.count kDigestCompared = (s.count kDigestCompared + 1) % 2 ^ 64 ∧ Tab.look t.twin.digests n = none ∧
        (dg = e.digest → t.count kDigestMismatch = s.count kDigestMismatch) ∧
        (dg ≠ e.digest → t.count kDigestMismatch = (s.count kDigestMismatch + 1) % 2 ^ 32 ∧
          t.count kLastMismatchSlice = n) ∧
        ((∀ own, Tab.look w.seqs n = some own → own = q) →
          (dg = e.digest → t.twin.matchRun = w.matchRun + 1 ∧ t.twin.mismatchRun = false) ∧
          (dg ≠ e.digest → t.twin.ready = 3 ∧ t.twin.matchRun = 0 ∧ t.twin.mismatchRun = true)) ∧
        (∀ own, Tab.look w.seqs n = some own → own ≠ q → t.twin.joining = true ∧ t.twin.ready = 0) ∧
        t.cfg = s.cfg ∧ t.tb = u.tb ∧ t.hist = s.hist))) ∧
    (arrives 3 (.delay p.val frame da) →
      (¬ listens → exec (.delay dt) s = .next v) ∧
      (listens → x.timing.waiting = some frame → exec (.delay dt) s = .next ((v.setPort p.val takes).resume p.val frame)) ∧
      (listens → x.timing.waiting = some g → g ≠ frame → g % 512 = 0 → exec (.delay dt) s = .next (v.setPort p.val stores)) ∧
      (listens → x.timing.waiting = none → frame < x.timing.f → x.timing.da = none → x.timing.missing = false →
        exec (.delay dt) s = .next (v.setPort p.val takes)) ∧
      (listens → x.timing.waiting = none → x.timing.f ≤ frame ∨ x.timing.da ≠ none → exec (.delay dt) s =
        .next (v.setPort p.val stores))) ∧
    (arrives 4 (.start p.val n) →
      (¬ listens → exec (.start dt) s = .next v) ∧
      (listens → exec (.start dt) s = .next (v.setPort p.val { x with start := some n }))) ∧
    (x.timing.waiting = some frame →
      (∀ y ys, x.held = y :: ys → notAfter (y.ta + BitVec.ofNat 64 (s.conf cMizzenWait * 2 ^ 20)) u.now = true) →
      Runs (.daWaitExpiry dt p) s (fun t => ∃ y : State,
        (x.timing.missing = true → y = u) ∧ (x.timing.missing = false → Journals 0x080B p.val (jdata [(0, frame)]) u y) ∧
        t = (y.setPort p.val { x with timing := { x.timing with waiting := none, missing := true } }).resume p.val frame)) ∧
    (u.closeDue m = true → Tab.look s.hist.decided m = none → Tab.look w.slices m = none →
      notAfter (s.closeTime m + BitVec.ofNat 64 (s.conf cMizzenWait * 2 ^ 20)) u.now = true →
      Runs (.mizzenWaitExpiry dt) s (fun t => t.count kUnsyncedSlices = (s.count kUnsyncedSlices + 1) % 2 ^ 32 ∧
        t.hist.nextClose = sliceAdd m 1 ∧ t.hist.reef = (u.decideReef m).hist.reef ∧ (Tab.look t.hist.written m).isSome ∧
        t.cfg = s.cfg ∧ t.tb = u.tb)) ∧
    (arrives 9 (.takeover term n) →
      (s.stayUp = true → high.toNat ≤ term.toNat → Runs (.takeoverMessage dt) s (fun t => t.twin.highest = seen term ∧
        t.twin.deciding = false ∧ t.twin.following = !w.left ∧ t.twin.sliceRx = w.sliceRx ∧ t.cfg = s.cfg ∧ t.tb = u.tb ∧
        (s.sys.role = .mainmast → high.toNat < term.toNat → fenced t) ∧
        (s.sys.role ≠ .mainmast → { t with twin := w } = u))) ∧
      (s.stayUp = false ∨ term.toNat < high.toNat → exec (.takeoverMessage dt) s = .next v)) ∧
    (arrives 10 (.hello hm) →
      (s.stayUp = false → exec (.hello dt) s = .next v) ∧
      (s.stayUp = true → Runs (.hello dt) s (fun t => t.twin.partner = some hm ∧ t.twin.highest = seen hm.term ∧
        t.cfg = s.cfg ∧ t.tb = u.tb ∧ (s.sys.role = .mainmast → high.toNat < hm.term.toNat → fenced t) ∧
        (s.sys.role ≠ .mainmast → { t with twin := w } = u ∧
          (hm.role = 1#8 → high.toNat ≤ hm.term.toNat → t.twin.deciding = false ∧
            (s.sys.dev = .fenced → w.left = false → t.twin.following = true)))))) ∧
    (w.left = false → s.stayUp = true → w.txQueue = [] → w.unacked.length < 256 → s.nextLane = some l →
      Runs (.helloSend dt) s (fun t =>
        t.out = .downlink (192 + l.val) wire :: .stay (w.msgNo + 1) (.hello hello) :: s.out ∧
        t.twin = { w with msgNo := w.msgNo + 1, txSeq := w.txSeq + 1, lane := (l.val + 1) % 4
                          unacked := w.unacked ++ [⟨w.txSeq, u.tb.c, bytes⟩] } ∧
        { t with twin := w, out := s.out, stay := s.stay } = u)) ∧
    (w.left = true ∨ s.stayUp = false → exec (.helloSend dt) s = .next u)

/-- R63, R67, R209, R278, R285, R316 to R318, R326, R330, R331, R335, R336, R341: a follower makes the partner's commit pending, arms
and keeps its images, each with an ACK; a snapshot with a good CRC frees the records that it reports, and a deciding unit
sends one at every 1,024th slice; a join is answered with its slice and taken over; ACK releases held responses; 4 µs without
an acknowledgement send the frames again; a lost partner leaves a READY unit PARTNER_LOST. A good frame of a stay lane in use
takes its acknowledgement and, in order, adds to the stream; a command for a message that is not there changes nothing.
R9, R317, R318, R328: messages of the stay link are read back as they were sent: behind the header of type, length and number
the payload stands little-endian as laid out for its type, and what follows in the stream is left. -/
def Obligations.TwinMessagesAct : Prop :=
  (∀ (dt n k val j : Nat) (num a : BitVec 32) (g : GenId) (tr : Tw) (staged : PulseFields) (outcome : ArmOutcome) (slot : Fin 4)
     (bytes b rest : List Byte) (ep : BitVec 64) (fields : List (Nat × Nat)) (imgs : List (List Byte)) (st : JoinState)
     (r : Record) (h : HeldResponse) (f : StayFrame) (fs : List StayFrame) (lane : Fin 4) (wire : List Bool) (s : State),
     let u := s.elapse dt
     let w := s.twin
     let v : State := { u with twin := { w with rxBytes := rest } }
     let arrives := fun (ty : Nat) (y : StayMsg) =>
       firstMsg w.rxBytes.length w.rxBytes = some (⟨ty, num, b⟩, rest) ∧ stayMsgOf ty b = some y
     let listens := s.paired = true ∧ (w.following = true ∨ w.joining = true) ∧ w.left = false ∧ w.partnerUp = true
     let acks := fun (P : State → Prop) (t : State) => ∃ y : State, P y ∧ y.tb = u.tb ∧ y.hist = s.hist ∧ y.twin.rxBytes = rest ∧
       t = y.say (.ack num)
     let js := (u.slice + 2048 + 1023) / 1024 * 1024 % 2 ^ 44
     let snap := snapshotOf b
     let again := (f :: fs).map (fun y => { y with sentC := u.tb.c })
     let fr := frameOf (LineRx.receive (Tab.get Port.empty s.stay lane.val).rx wire).2.1
       (LineRx.receive (Tab.get Port.empty s.stay lane.val).rx wire).2.2
     let inOrder := fr.kind = 1#5 ∧ (w.rxSeq = none ∨ w.rxSeq = some (fr.seq - 1))
     (arrives 5 (.commit n [(k, val)]) →
       (¬ listens → exec (.commitMessage dt) s = .next v) ∧
       (listens → isLocalKey k = false → Runs (.commitMessage dt) s (acks (fun t => t.cfg.lastCommit = 1 ∧
         (∃ y, t.cfg.pending = some (n, y) ∧ t.cfg.staging = y ∧ Tab.get (keyDefault k) y k = val ∧
           ∀ i, i ≠ k → isLocalKey i = false → Tab.look y i = Tab.look s.cfg.epoch i) ∧
         t.cfg.epoch = s.cfg.epoch ∧ t.cfg.active = s.cfg.active)))) ∧
     (arrives 6 (.arm g.val tr staged outcome) → listens → Runs (.armMessage dt) s (acks (fun t =>
       t.gen g.val = (s.gen g.val).arm staged tr outcome ∧ t.imm (cPgStart g.val) = staged.start.toNat ∧
       t.imm (cPgPeriod g.val) = staged.period.toNat ∧ ∀ i, i ≠ g.val → t.gen i = s.gen i))) ∧
     (arrives 7 (.image slot.val bytes) → listens → Runs (.image dt) s (acks (fun t =>
       Tab.look t.cfg.images slot.val = some bytes ∧
       ∀ i, i ≠ slot.val → Tab.look t.cfg.images i = Tab.look s.cfg.images i))) ∧
     (firstMsg w.rxBytes.length w.rxBytes = some (⟨8, num, b⟩, rest) → listens → 580 ≤ b.length →
       (leAt b (b.length - 4) 4 = (crc32c (b.take (b.length - 4))).toNat → Runs (.snapshot dt) s (fun t =>
         t.count kSnapshotsCommitted = (s.count kSnapshotsCommitted + 1) % 2 ^ 64 ∧ t.count kLastSnapshotSlice = leAt b 16 6 ∧
         t.twin.snapshot = some snap ∧ t.tb = u.tb ∧ t.hist = s.hist ∧
         (s.trig.records = [(k, r)] → (r.seq - snap.through).toInt ≤ 0 ∨ r.seq.toNat ∈ snap.done → t.trig.records = []))) ∧
       (leAt b (b.length - 4) 4 ≠ (crc32c (b.take (b.length - 4))).toNat → Runs (.snapshot dt) s
         (Journals 0x0804 srcDevice (jdata [(0, leAt b 0 8)]) (v.bump kSnapshotsDiscarded)))) ∧
     (s.forwards = true → s.stayUp = true → u.slice % 1024 = 0 → Runs (.snapshotTake dt) s (fun t =>
       ∃ y : Snapshot, y.number = w.snapNo + 1 ∧ y.term = w.highest ∧ y.slice = u.slice ∧ y.epoch = s.cfg.number ∧
         y.recordSeq = s.trig.recordSeq ∧ y.oldest = s.hist.oldest ∧ y.through = s.completedThrough ∧
         t = (({ u with twin := { w with snapNo := w.snapNo + 1 } } : State).say
           (.snapshot y (crc32c (snapshotBytes y)))).bump64 kSnapshotsSent)) ∧
     (s.forwards = false ∨ s.stayUp = false ∨ u.slice % 1024 ≠ 0 → exec (.snapshotTake dt) s = .next u) ∧
     (arrives 11 (.join .request) → s.stayUp = true → s.forwards = true → Runs (.joinMessage dt) s (fun t =>
       ∃ y : State, y = v.say (.ack num) ∧ t = (({ y with twin := { y.twin with
         joinAt := some js, joinState := false } } : State).setStat kJoinSlice js).say (.join (.config js (s.epochAt js)
           ((s.confTable js).filter (fun e => !isLocalKey e.1)) ((List.range 4).map (fun i => (s.image i).getD [])))))) ∧
     (arrives 11 (.join (.config j ep fields imgs)) → s.stayUp = true → w.joining = true → Runs (.joinMessage dt) s
       (acks (fun t => t.twin.joinAt = some j ∧ t.twin.joinEpoch = ep ∧ t.twin.joinFields = fields ∧
         t.twin.joinImages = imgs ∧ t.count kJoinSlice = j ∧ t.cfg = s.cfg))) ∧
     (arrives 11 (.join (.state st)) → s.stayUp = true → w.joining = true → Runs (.joinMessage dt) s (fun t =>
       ∃ y : State, y.trig.recordSeq = st.recordSeq ∧ y.twin.joinState = true ∧ y.twin.ready = 1 ∧ y.cfg = s.cfg ∧
         y.tb = u.tb ∧ t = (y.say (.ack num)).joinCheck)) ∧
     (w.joinAt = some j → sliceLe j u.slice = true → s.sys.dev ≠ .fault →
       (w.joining = true → s.hist.firstRun ≠ j ∨ s.running = false → Runs (.joinSlice dt) s (fun t =>
         t.cfg.number = w.joinEpoch ∧ t.cfg.pending = none ∧ t.twin.following = true ∧ t.twin.deciding = false)) ∧
       (w.joining = false → w.joinState = false → Runs (.joinSlice dt) s (fun t => t.twin.joinState = true ∧
         t.ctl.jCount = s.ctl.jCount + 1 ∧ t.cfg = s.cfg ∧ t.tb = u.tb ∧ t.hist.log = s.hist.log))) ∧
     (w.joinAt = none → exec (.joinSlice dt) s = .next u) ∧
     (arrives 12 (.ack a) → Runs (.ack dt) s (fun t => t.ctl.held = s.ctl.held.filter (fun y => decide (y.num ≠ a)) ∧
       ((∀ y ∈ s.ctl.held, y.num ≠ a) → t = v) ∧
       (s.ctl.held = [h] → h.num = a → h.request.transport = .canA →
         t.out = .can .a (canId 9 h.request.node s.ownNode) (pad64 h.bytes) :: s.out) ∧
       t.cfg = s.cfg ∧ t.hist = s.hist ∧ t.tb = u.tb)) ∧
     (firstMsg w.rxBytes.length w.rxBytes = none → ∀ i, i ∈ [Instr.slice dt, .digest dt, .delay dt, .start dt,
       .commitMessage dt, .armMessage dt, .image dt, .snapshot dt, .takeoverMessage dt, .hello dt, .joinMessage dt, .ack dt] →
       exec i s = .next u) ∧
     (w.unacked = f :: fs → s.stayUp = true → 4096000 ≤ (u.tb.c - f.sentC).toNat →
       (s.nextLane = none → exec (.stayRetransmit dt) s = .next { u with twin := { w with unacked := again } }) ∧
       (s.nextLane ≠ none → Runs (.stayRetransmit dt) s (fun t =>
         t.count kStayRetransmits = (s.count kStayRetransmits + (fs.length + 1)) % 2 ^ 32 ∧
         t.twin = { w with unacked := again, lane := t.twin.lane } ∧
         (∃ l : List (Fin 4 × List Bool), l.length = fs.length + 1 ∧ (∀ y ∈ l, s.laneInUse y.1 = true) ∧
           t.out = (l.map (fun y => Out.downlink (192 + y.1.val) y.2)).reverse ++ s.out) ∧
         { t with twin := w, stat := s.stat, out := s.out, stay := s.stay } = u))) ∧
     (w.unacked = [] → exec (.stayRetransmit dt) s = .next u) ∧
     (s.stayUp = true → s.conf cStayTimeout * 1024000 < (u.tb.c - w.lastRx).toNat → Runs (.partnerLost dt) s (fun t =>
       t.twin.partnerUp = false ∧ t.twin.partner = none ∧ t.twin.unacked = [] ∧ t.twin.txQueue = [] ∧ t.twin.rxBytes = [] ∧
       t.twin.joining = false ∧ t.ctl.held = [] ∧ t.twin.ready = (if w.ready = 2 then 4 else w.ready) ∧
       (leAt (incomplete w.rxBytes.length w.rxBytes) 0 1 ≠ 8 → t.ctl.jCount = s.ctl.jCount + 1) ∧
       (leAt (incomplete w.rxBytes.length w.rxBytes) 0 1 = 8 → listens → t.ctl.jCount = s.ctl.jCount + 2 ∧
         t.count kSnapshotsDiscarded = (s.count kSnapshotsDiscarded + 1) % 2 ^ 32) ∧
       t.cfg = s.cfg ∧ t.hist = s.hist ∧ t.tb = u.tb)) ∧
     ((Tab.get Port.empty s.stay lane.val).st = .active → frameSound fr = true → fr.kind.toNat ≤ 1 → w.txQueue = [] →
       Runs (.stayLinkFrame dt lane wire) s (fun t => t.twin.lastRx = u.tb.c ∧
         (inOrder → t.twin.rxSeq = some fr.seq ∧ t.twin.rxBytes = w.rxBytes ++
           (List.range 31).flatMap (fun i => leBytes 8 (fr.words.getD (i + 1) 0#64).toNat)) ∧
         (¬ inOrder → t.twin.rxSeq = w.rxSeq ∧ t.twin.rxBytes = w.rxBytes) ∧
         (∀ y ys, w.unacked = y :: ys → wbits (fr.words.getD 0 0#64) 53 1 = 1 →
           BitVec.ofNat 10 (wbits (fr.words.getD 0 0#64) 54 10) = y.seq → t.twin.unacked.map (·.seq) = ys.map (·.seq)) ∧
         t.out = s.out ∧ { t with twin := w, stay := s.stay, stat := s.stat } = u)) ∧
     ((Tab.get Port.empty s.stay lane.val).st = .active → frameSound fr = false → Runs (.stayLinkFrame dt lane wire) s (fun t =>
       t.twin = w ∧ t.out = s.out))) ∧
  (∀ (n level k frame slot : Nat) (da : Int) (trigs : List FwdTrigger) (pl : List Placement) (dg q : BitVec 64)
     (num term : BitVec 32) (hm : HelloMsg) (bytes rest : List Byte),
     let arrives := fun (m : StayMsg) => m.payload.length < 65535 →
       let b := leBytes 1 m.type ++ leBytes 1 0 ++ leBytes 2 m.payload.length ++ leBytes 4 num.toNat ++ m.payload ++ rest
       firstMsg b.length b = some (⟨m.type, num, m.payload⟩, rest) ∧ stayMsgOf m.type m.payload = some m
     (n < 2 ^ 48 → level < 256 → trigs.length < 256 →
       (∀ t ∈ trigs, t.cls < 256 ∧ t.srcNum < 65536 ∧ (t.host = true → t.alertSeq = 0#64)) →
       (∀ p ∈ pl, p.cls < 256 ∧ p.outcome < 256 ∧ p.rank < 65536) → arrives (.slice n level trigs pl)) ∧
     (n < 2 ^ 48 → arrives (.digest n dg q) ∧ arrives (.takeover term n) ∧ (k < 256 → arrives (.start k n))) ∧
     (k < 256 → frame < 2 ^ 64 → -(2 ^ 31) ≤ da → da < 2 ^ 31 → arrives (.delay k frame da)) ∧
     (slot < 256 → arrives (.image slot bytes)) ∧ arrives (.hello hm) ∧ arrives (.join .request) ∧ arrives (.ack num))
end

