-- ==== Sys2Proof/Laws/Bytes.lean ====
section
/-! SUPPORT. Bytes of a number and the number of bytes (R9). -/

namespace Sys2Proof.Machine

@[simp] theorem leBytes_length (n v : Nat) : (leBytes n v).length = n := by
  induction n generalizing v with
  | zero => rfl
  | succ n ih => simp [leBytes, ih]

@[simp] theorem leNat_leBytes (n v : Nat) : leNat (leBytes n v) = v % 256 ^ n := by
  induction n generalizing v with
  | zero => simp [leBytes, leNat, Nat.mod_one]
  | succ n ih => simp [leBytes, leNat, ih, Nat.pow_succ', Nat.mod_mul]

/-- The number that stands behind `a` in a message. -/
theorem leAt_append (a b c : List Byte) (off n : Nat) (ha : a.length = off) (hb : b.length = n) :
    leAt (a ++ (b ++ c)) off n = leNat b := by
  subst ha hb
  simp [leAt]

end Sys2Proof.Machine
end

