-- ==== Sys2Proof/Laws/Tab.lean ====
section
/-! SUPPORT. Sparse tables: reads after writes, and the canonical form that every operation keeps. -/

namespace Sys2Proof.Machine

variable {α : Type}

@[simp] theorem Tab.look_nil (i : Nat) : Tab.look ([] : Tab α) i = none := rfl

@[simp] theorem Tab.look_put_same (t : Tab α) (i : Nat) (v : α) : Tab.look (Tab.put t i v) i = some v := by
  induction t with
  | nil => simp [Tab.put, Tab.look]
  | cons e t ih =>
    obtain ⟨k, w⟩ := e
    unfold Tab.put
    split
    · simp [Tab.look]
    · split
      · simp [Tab.look]
      · simp [Tab.look, *]

@[simp] theorem Tab.look_put_ne (t : Tab α) (i j : Nat) (v : α) (h : j ≠ i) :
    Tab.look (Tab.put t i v) j = Tab.look t j := by
  induction t with
  | nil => simp [Tab.put, Tab.look, h]
  | cons e t ih =>
    obtain ⟨k, w⟩ := e
    unfold Tab.put
    split
    · simp [Tab.look, h]
    · split
      · rename_i hk
        subst hk
        simp [Tab.look, h]
      · simp [Tab.look, ih]

theorem Tab.look_drop (t : Tab α) (i j : Nat) : Tab.look (Tab.drop t i) j = if j = i then none else Tab.look t j := by
  induction t with
  | nil => simp [Tab.drop]
  | cons e t ih =>
    obtain ⟨k, w⟩ := e
    unfold Tab.drop at ih ⊢
    by_cases hk : k = i <;> by_cases hj : j = k <;> by_cases hji : j = i <;> simp_all [Tab.look]

@[simp] theorem Tab.look_drop_same (t : Tab α) (i : Nat) : Tab.look (Tab.drop t i) i = none := by
  simp [Tab.look_drop]

@[simp] theorem Tab.look_drop_ne (t : Tab α) (i j : Nat) (h : j ≠ i) : Tab.look (Tab.drop t i) j = Tab.look t j := by
  simp [Tab.look_drop, h]

@[simp] theorem Tab.get_nil (d : α) (i : Nat) : Tab.get d ([] : Tab α) i = d := rfl

/-- A read after a write to the same key gives the value written. -/
@[simp] theorem Tab.get_set_same [DecidableEq α] (d : α) (t : Tab α) (i : Nat) (v : α) :
    Tab.get d (Tab.set d t i v) i = v := by
  unfold Tab.set
  split <;> simp_all [Tab.get]

/-- A write leaves every other key alone. -/
@[simp] theorem Tab.get_set_ne [DecidableEq α] (d : α) (t : Tab α) (i j : Nat) (v : α) (h : j ≠ i) :
    Tab.get d (Tab.set d t i v) j = Tab.get d t j := by
  unfold Tab.set
  split <;> simp [Tab.get, h]

theorem Tab.sorted_drop (t : Tab α) (i : Nat) (h : Tab.sorted t) : Tab.sorted (Tab.drop t i) := by
  unfold Tab.sorted Tab.drop at *
  exact h.sublist (List.filter_sublist.map _)

theorem Tab.mem_put (t : Tab α) (i : Nat) (v : α) (e : Nat × α) (h : e ∈ Tab.put t i v) : e = (i, v) ∨ e ∈ t := by
  induction t with
  | nil => simpa [Tab.put] using h
  | cons x t ih =>
    obtain ⟨k, w⟩ := x
    unfold Tab.put at h
    split at h
    · simpa using h
    · split at h
      · rcases List.mem_cons.mp h with rfl | h
        · exact .inl rfl
        · exact .inr (List.mem_cons_of_mem _ h)
      · rcases List.mem_cons.mp h with rfl | h
        · exact .inr List.mem_cons_self
        · exact (ih h).imp_right (List.mem_cons_of_mem _)

theorem Tab.sorted_put (t : Tab α) (i : Nat) (v : α) (h : Tab.sorted t) : Tab.sorted (Tab.put t i v) := by
  induction t with
  | nil => simp [Tab.put, Tab.sorted]
  | cons x t ih =>
    obtain ⟨k, w⟩ := x
    simp only [Tab.sorted, List.map_cons, List.pairwise_cons] at h
    unfold Tab.put
    split
    · rename_i hik
      simp only [Tab.sorted, List.map_cons, List.pairwise_cons]
      refine ⟨?_, h⟩
      intro b hb
      rcases List.mem_cons.mp hb with rfl | hb
      · exact hik
      · exact hik.trans (h.1 b hb)
    · split
      · rename_i hik
        subst hik
        simpa only [Tab.sorted, List.map_cons, List.pairwise_cons] using h
      · simp only [Tab.sorted, List.map_cons, List.pairwise_cons]
        refine ⟨?_, ih h.2⟩
        intro b hb
        obtain ⟨e, he, rfl⟩ := List.mem_map.mp hb
        rcases Tab.mem_put t i v e he with rfl | he
        · simp only
          omega
        · exact h.1 _ (List.mem_map_of_mem he)

/-- A write keeps the canonical form. -/
theorem Tab.wf_set [DecidableEq α] (d : α) (t : Tab α) (i : Nat) (v : α) (h : Tab.wf d t) : Tab.wf d (Tab.set d t i v) := by
  unfold Tab.set
  split
  · exact ⟨Tab.sorted_drop t i h.1, fun e he => h.2 e (List.mem_of_mem_filter he)⟩
  · refine ⟨Tab.sorted_put t i v h.1, fun e he => ?_⟩
    rcases Tab.mem_put t i v e he with rfl | he
    · assumption
    · exact h.2 e he

/-- Writes of a list of values keep the canonical form. -/
theorem Tab.wf_setAll [DecidableEq α] (d : α) (vs : List α) (t : Tab α) (i : Nat) (h : Tab.wf d t) :
    Tab.wf d (Tab.setAll d t i vs) := by
  induction vs generalizing t i with
  | nil => exact h
  | cons v vs ih => exact ih _ _ (Tab.wf_set d t i v h)

/-- The empty table has the canonical form. -/
theorem Tab.wf_nil (d : α) : Tab.wf d ([] : Tab α) := by simp [Tab.wf, Tab.sorted]

/-- A table filtered by its entries keeps the canonical form. -/
theorem Tab.wf_filter (d : α) (t : Tab α) (p : Nat × α → Bool) (h : Tab.wf d t) : Tab.wf d (t.filter p) :=
  ⟨h.1.sublist (List.filter_sublist.map _), fun e he => h.2 e (List.mem_of_mem_filter he)⟩

end Sys2Proof.Machine
end

