-- ==== Sys2Proof/Laws/State.lean ====
section
/-! SUPPORT. What the named operations over the state leave alone and what they change: one lemma per operation and field. -/

namespace Sys2Proof.Machine

/-! ### elapse -/

@[simp] theorem State.elapse_pending (s : State) (dt : Nat) : (s.elapse dt).pending = s.pending := rfl
@[simp] theorem State.elapse_sys (s : State) (dt : Nat) : (s.elapse dt).sys = s.sys := rfl
@[simp] theorem State.elapse_ctl (s : State) (dt : Nat) : (s.elapse dt).ctl = s.ctl := rfl
@[simp] theorem State.elapse_cfg (s : State) (dt : Nat) : (s.elapse dt).cfg = s.cfg := rfl
@[simp] theorem State.elapse_eth (s : State) (dt : Nat) : (s.elapse dt).eth = s.eth := rfl
@[simp] theorem State.elapse_pulse (s : State) (dt : Nat) : (s.elapse dt).pulse = s.pulse := rfl
@[simp] theorem State.elapse_ports (s : State) (dt : Nat) : (s.elapse dt).ports = s.ports := rfl
@[simp] theorem State.elapse_stay (s : State) (dt : Nat) : (s.elapse dt).stay = s.stay := rfl
@[simp] theorem State.elapse_groups (s : State) (dt : Nat) : (s.elapse dt).groups = s.groups := rfl
@[simp] theorem State.elapse_hist (s : State) (dt : Nat) : (s.elapse dt).hist = s.hist := rfl
@[simp] theorem State.elapse_trig (s : State) (dt : Nat) : (s.elapse dt).trig = s.trig := rfl
@[simp] theorem State.elapse_cores (s : State) (dt : Nat) : (s.elapse dt).cores = s.cores := rfl
@[simp] theorem State.elapse_host (s : State) (dt : Nat) : (s.elapse dt).host = s.host := rfl
@[simp] theorem State.elapse_twin (s : State) (dt : Nat) : (s.elapse dt).twin = s.twin := rfl
@[simp] theorem State.elapse_tins (s : State) (dt : Nat) : (s.elapse dt).tins = s.tins := rfl
@[simp] theorem State.elapse_mon (s : State) (dt : Nat) : (s.elapse dt).mon = s.mon := rfl
@[simp] theorem State.elapse_light (s : State) (dt : Nat) : (s.elapse dt).light = s.light := rfl
@[simp] theorem State.elapse_stat (s : State) (dt : Nat) : (s.elapse dt).stat = s.stat := rfl
@[simp] theorem State.elapse_out (s : State) (dt : Nat) : (s.elapse dt).out = s.out := rfl
@[simp] theorem State.elapse_free (s : State) (dt : Nat) : (s.elapse dt).free = s.free := rfl

/-! ### setImm -/

@[simp] theorem State.setImm_pending (s : State) (o : Obj) (v : Nat) : (s.setImm o v).pending = s.pending := rfl
@[simp] theorem State.setImm_sys (s : State) (o : Obj) (v : Nat) : (s.setImm o v).sys = s.sys := rfl
@[simp] theorem State.setImm_ctl (s : State) (o : Obj) (v : Nat) : (s.setImm o v).ctl = s.ctl := rfl
@[simp] theorem State.setImm_tb (s : State) (o : Obj) (v : Nat) : (s.setImm o v).tb = s.tb := rfl
@[simp] theorem State.setImm_eth (s : State) (o : Obj) (v : Nat) : (s.setImm o v).eth = s.eth := rfl
@[simp] theorem State.setImm_pulse (s : State) (o : Obj) (v : Nat) : (s.setImm o v).pulse = s.pulse := rfl
@[simp] theorem State.setImm_ports (s : State) (o : Obj) (v : Nat) : (s.setImm o v).ports = s.ports := rfl
@[simp] theorem State.setImm_stay (s : State) (o : Obj) (v : Nat) : (s.setImm o v).stay = s.stay := rfl
@[simp] theorem State.setImm_groups (s : State) (o : Obj) (v : Nat) : (s.setImm o v).groups = s.groups := rfl
@[simp] theorem State.setImm_hist (s : State) (o : Obj) (v : Nat) : (s.setImm o v).hist = s.hist := rfl
@[simp] theorem State.setImm_trig (s : State) (o : Obj) (v : Nat) : (s.setImm o v).trig = s.trig := rfl
@[simp] theorem State.setImm_cores (s : State) (o : Obj) (v : Nat) : (s.setImm o v).cores = s.cores := rfl
@[simp] theorem State.setImm_host (s : State) (o : Obj) (v : Nat) : (s.setImm o v).host = s.host := rfl
@[simp] theorem State.setImm_twin (s : State) (o : Obj) (v : Nat) : (s.setImm o v).twin = s.twin := rfl
@[simp] theorem State.setImm_tins (s : State) (o : Obj) (v : Nat) : (s.setImm o v).tins = s.tins := rfl
@[simp] theorem State.setImm_mon (s : State) (o : Obj) (v : Nat) : (s.setImm o v).mon = s.mon := rfl
@[simp] theorem State.setImm_light (s : State) (o : Obj) (v : Nat) : (s.setImm o v).light = s.light := rfl
@[simp] theorem State.setImm_stat (s : State) (o : Obj) (v : Nat) : (s.setImm o v).stat = s.stat := rfl
@[simp] theorem State.setImm_out (s : State) (o : Obj) (v : Nat) : (s.setImm o v).out = s.out := rfl
@[simp] theorem State.setImm_free (s : State) (o : Obj) (v : Nat) : (s.setImm o v).free = s.free := rfl

/-! ### setStat -/

@[simp] theorem State.setStat_pending (s : State) (k v : Nat) : (s.setStat k v).pending = s.pending := rfl
@[simp] theorem State.setStat_sys (s : State) (k v : Nat) : (s.setStat k v).sys = s.sys := rfl
@[simp] theorem State.setStat_ctl (s : State) (k v : Nat) : (s.setStat k v).ctl = s.ctl := rfl
@[simp] theorem State.setStat_cfg (s : State) (k v : Nat) : (s.setStat k v).cfg = s.cfg := rfl
@[simp] theorem State.setStat_tb (s : State) (k v : Nat) : (s.setStat k v).tb = s.tb := rfl
@[simp] theorem State.setStat_eth (s : State) (k v : Nat) : (s.setStat k v).eth = s.eth := rfl
@[simp] theorem State.setStat_pulse (s : State) (k v : Nat) : (s.setStat k v).pulse = s.pulse := rfl
@[simp] theorem State.setStat_ports (s : State) (k v : Nat) : (s.setStat k v).ports = s.ports := rfl
@[simp] theorem State.setStat_stay (s : State) (k v : Nat) : (s.setStat k v).stay = s.stay := rfl
@[simp] theorem State.setStat_groups (s : State) (k v : Nat) : (s.setStat k v).groups = s.groups := rfl
@[simp] theorem State.setStat_hist (s : State) (k v : Nat) : (s.setStat k v).hist = s.hist := rfl
@[simp] theorem State.setStat_trig (s : State) (k v : Nat) : (s.setStat k v).trig = s.trig := rfl
@[simp] theorem State.setStat_cores (s : State) (k v : Nat) : (s.setStat k v).cores = s.cores := rfl
@[simp] theorem State.setStat_host (s : State) (k v : Nat) : (s.setStat k v).host = s.host := rfl
@[simp] theorem State.setStat_twin (s : State) (k v : Nat) : (s.setStat k v).twin = s.twin := rfl
@[simp] theorem State.setStat_tins (s : State) (k v : Nat) : (s.setStat k v).tins = s.tins := rfl
@[simp] theorem State.setStat_mon (s : State) (k v : Nat) : (s.setStat k v).mon = s.mon := rfl
@[simp] theorem State.setStat_light (s : State) (k v : Nat) : (s.setStat k v).light = s.light := rfl
@[simp] theorem State.setStat_out (s : State) (k v : Nat) : (s.setStat k v).out = s.out := rfl
@[simp] theorem State.setStat_free (s : State) (k v : Nat) : (s.setStat k v).free = s.free := rfl

/-! ### bump -/

@[simp] theorem State.bump_pending (s : State) (k n : Nat) : (s.bump k n).pending = s.pending := rfl
@[simp] theorem State.bump_sys (s : State) (k n : Nat) : (s.bump k n).sys = s.sys := rfl
@[simp] theorem State.bump_ctl (s : State) (k n : Nat) : (s.bump k n).ctl = s.ctl := rfl
@[simp] theorem State.bump_cfg (s : State) (k n : Nat) : (s.bump k n).cfg = s.cfg := rfl
@[simp] theorem State.bump_tb (s : State) (k n : Nat) : (s.bump k n).tb = s.tb := rfl
@[simp] theorem State.bump_eth (s : State) (k n : Nat) : (s.bump k n).eth = s.eth := rfl
@[simp] theorem State.bump_pulse (s : State) (k n : Nat) : (s.bump k n).pulse = s.pulse := rfl
@[simp] theorem State.bump_ports (s : State) (k n : Nat) : (s.bump k n).ports = s.ports := rfl
@[simp] theorem State.bump_stay (s : State) (k n : Nat) : (s.bump k n).stay = s.stay := rfl
@[simp] theorem State.bump_groups (s : State) (k n : Nat) : (s.bump k n).groups = s.groups := rfl
@[simp] theorem State.bump_hist (s : State) (k n : Nat) : (s.bump k n).hist = s.hist := rfl
@[simp] theorem State.bump_trig (s : State) (k n : Nat) : (s.bump k n).trig = s.trig := rfl
@[simp] theorem State.bump_cores (s : State) (k n : Nat) : (s.bump k n).cores = s.cores := rfl
@[simp] theorem State.bump_host (s : State) (k n : Nat) : (s.bump k n).host = s.host := rfl
@[simp] theorem State.bump_twin (s : State) (k n : Nat) : (s.bump k n).twin = s.twin := rfl
@[simp] theorem State.bump_tins (s : State) (k n : Nat) : (s.bump k n).tins = s.tins := rfl
@[simp] theorem State.bump_mon (s : State) (k n : Nat) : (s.bump k n).mon = s.mon := rfl
@[simp] theorem State.bump_light (s : State) (k n : Nat) : (s.bump k n).light = s.light := rfl
@[simp] theorem State.bump_out (s : State) (k n : Nat) : (s.bump k n).out = s.out := rfl
@[simp] theorem State.bump_free (s : State) (k n : Nat) : (s.bump k n).free = s.free := rfl

/-! ### bump64 -/

@[simp] theorem State.bump64_pending (s : State) (k n : Nat) : (s.bump64 k n).pending = s.pending := rfl
@[simp] theorem State.bump64_sys (s : State) (k n : Nat) : (s.bump64 k n).sys = s.sys := rfl
@[simp] theorem State.bump64_ctl (s : State) (k n : Nat) : (s.bump64 k n).ctl = s.ctl := rfl
@[simp] theorem State.bump64_cfg (s : State) (k n : Nat) : (s.bump64 k n).cfg = s.cfg := rfl
@[simp] theorem State.bump64_tb (s : State) (k n : Nat) : (s.bump64 k n).tb = s.tb := rfl
@[simp] theorem State.bump64_eth (s : State) (k n : Nat) : (s.bump64 k n).eth = s.eth := rfl
@[simp] theorem State.bump64_pulse (s : State) (k n : Nat) : (s.bump64 k n).pulse = s.pulse := rfl
@[simp] theorem State.bump64_ports (s : State) (k n : Nat) : (s.bump64 k n).ports = s.ports := rfl
@[simp] theorem State.bump64_stay (s : State) (k n : Nat) : (s.bump64 k n).stay = s.stay := rfl
@[simp] theorem State.bump64_groups (s : State) (k n : Nat) : (s.bump64 k n).groups = s.groups := rfl
@[simp] theorem State.bump64_hist (s : State) (k n : Nat) : (s.bump64 k n).hist = s.hist := rfl
@[simp] theorem State.bump64_trig (s : State) (k n : Nat) : (s.bump64 k n).trig = s.trig := rfl
@[simp] theorem State.bump64_cores (s : State) (k n : Nat) : (s.bump64 k n).cores = s.cores := rfl
@[simp] theorem State.bump64_host (s : State) (k n : Nat) : (s.bump64 k n).host = s.host := rfl
@[simp] theorem State.bump64_twin (s : State) (k n : Nat) : (s.bump64 k n).twin = s.twin := rfl
@[simp] theorem State.bump64_tins (s : State) (k n : Nat) : (s.bump64 k n).tins = s.tins := rfl
@[simp] theorem State.bump64_mon (s : State) (k n : Nat) : (s.bump64 k n).mon = s.mon := rfl
@[simp] theorem State.bump64_light (s : State) (k n : Nat) : (s.bump64 k n).light = s.light := rfl
@[simp] theorem State.bump64_out (s : State) (k n : Nat) : (s.bump64 k n).out = s.out := rfl
@[simp] theorem State.bump64_free (s : State) (k n : Nat) : (s.bump64 k n).free = s.free := rfl

/-! ### emit -/

@[simp] theorem State.emit_pending (s : State) (o : Out) : (s.emit o).pending = s.pending := rfl
@[simp] theorem State.emit_sys (s : State) (o : Out) : (s.emit o).sys = s.sys := rfl
@[simp] theorem State.emit_ctl (s : State) (o : Out) : (s.emit o).ctl = s.ctl := rfl
@[simp] theorem State.emit_cfg (s : State) (o : Out) : (s.emit o).cfg = s.cfg := rfl
@[simp] theorem State.emit_tb (s : State) (o : Out) : (s.emit o).tb = s.tb := rfl
@[simp] theorem State.emit_eth (s : State) (o : Out) : (s.emit o).eth = s.eth := rfl
@[simp] theorem State.emit_pulse (s : State) (o : Out) : (s.emit o).pulse = s.pulse := rfl
@[simp] theorem State.emit_ports (s : State) (o : Out) : (s.emit o).ports = s.ports := rfl
@[simp] theorem State.emit_stay (s : State) (o : Out) : (s.emit o).stay = s.stay := rfl
@[simp] theorem State.emit_groups (s : State) (o : Out) : (s.emit o).groups = s.groups := rfl
@[simp] theorem State.emit_hist (s : State) (o : Out) : (s.emit o).hist = s.hist := rfl
@[simp] theorem State.emit_trig (s : State) (o : Out) : (s.emit o).trig = s.trig := rfl
@[simp] theorem State.emit_cores (s : State) (o : Out) : (s.emit o).cores = s.cores := rfl
@[simp] theorem State.emit_host (s : State) (o : Out) : (s.emit o).host = s.host := rfl
@[simp] theorem State.emit_twin (s : State) (o : Out) : (s.emit o).twin = s.twin := rfl
@[simp] theorem State.emit_tins (s : State) (o : Out) : (s.emit o).tins = s.tins := rfl
@[simp] theorem State.emit_mon (s : State) (o : Out) : (s.emit o).mon = s.mon := rfl
@[simp] theorem State.emit_light (s : State) (o : Out) : (s.emit o).light = s.light := rfl
@[simp] theorem State.emit_stat (s : State) (o : Out) : (s.emit o).stat = s.stat := rfl
@[simp] theorem State.emit_free (s : State) (o : Out) : (s.emit o).free = s.free := rfl

/-! ### nextFree -/

@[simp] theorem State.nextFree_pending (s : State) : (s.nextFree).pending = s.pending := rfl
@[simp] theorem State.nextFree_sys (s : State) : (s.nextFree).sys = s.sys := rfl
@[simp] theorem State.nextFree_ctl (s : State) : (s.nextFree).ctl = s.ctl := rfl
@[simp] theorem State.nextFree_cfg (s : State) : (s.nextFree).cfg = s.cfg := rfl
@[simp] theorem State.nextFree_tb (s : State) : (s.nextFree).tb = s.tb := rfl
@[simp] theorem State.nextFree_eth (s : State) : (s.nextFree).eth = s.eth := rfl
@[simp] theorem State.nextFree_pulse (s : State) : (s.nextFree).pulse = s.pulse := rfl
@[simp] theorem State.nextFree_ports (s : State) : (s.nextFree).ports = s.ports := rfl
@[simp] theorem State.nextFree_stay (s : State) : (s.nextFree).stay = s.stay := rfl
@[simp] theorem State.nextFree_groups (s : State) : (s.nextFree).groups = s.groups := rfl
@[simp] theorem State.nextFree_hist (s : State) : (s.nextFree).hist = s.hist := rfl
@[simp] theorem State.nextFree_trig (s : State) : (s.nextFree).trig = s.trig := rfl
@[simp] theorem State.nextFree_cores (s : State) : (s.nextFree).cores = s.cores := rfl
@[simp] theorem State.nextFree_host (s : State) : (s.nextFree).host = s.host := rfl
@[simp] theorem State.nextFree_twin (s : State) : (s.nextFree).twin = s.twin := rfl
@[simp] theorem State.nextFree_tins (s : State) : (s.nextFree).tins = s.tins := rfl
@[simp] theorem State.nextFree_mon (s : State) : (s.nextFree).mon = s.mon := rfl
@[simp] theorem State.nextFree_light (s : State) : (s.nextFree).light = s.light := rfl
@[simp] theorem State.nextFree_stat (s : State) : (s.nextFree).stat = s.stat := rfl
@[simp] theorem State.nextFree_out (s : State) : (s.nextFree).out = s.out := rfl

/-! ### nextSeq -/

@[simp] theorem State.nextSeq_pending (s : State) : (s.nextSeq).pending = s.pending := rfl
@[simp] theorem State.nextSeq_sys (s : State) : (s.nextSeq).sys = s.sys := rfl
@[simp] theorem State.nextSeq_cfg (s : State) : (s.nextSeq).cfg = s.cfg := rfl
@[simp] theorem State.nextSeq_tb (s : State) : (s.nextSeq).tb = s.tb := rfl
@[simp] theorem State.nextSeq_eth (s : State) : (s.nextSeq).eth = s.eth := rfl
@[simp] theorem State.nextSeq_pulse (s : State) : (s.nextSeq).pulse = s.pulse := rfl
@[simp] theorem State.nextSeq_ports (s : State) : (s.nextSeq).ports = s.ports := rfl
@[simp] theorem State.nextSeq_stay (s : State) : (s.nextSeq).stay = s.stay := rfl
@[simp] theorem State.nextSeq_groups (s : State) : (s.nextSeq).groups = s.groups := rfl
@[simp] theorem State.nextSeq_hist (s : State) : (s.nextSeq).hist = s.hist := rfl
@[simp] theorem State.nextSeq_trig (s : State) : (s.nextSeq).trig = s.trig := rfl
@[simp] theorem State.nextSeq_cores (s : State) : (s.nextSeq).cores = s.cores := rfl
@[simp] theorem State.nextSeq_host (s : State) : (s.nextSeq).host = s.host := rfl
@[simp] theorem State.nextSeq_twin (s : State) : (s.nextSeq).twin = s.twin := rfl
@[simp] theorem State.nextSeq_tins (s : State) : (s.nextSeq).tins = s.tins := rfl
@[simp] theorem State.nextSeq_mon (s : State) : (s.nextSeq).mon = s.mon := rfl
@[simp] theorem State.nextSeq_light (s : State) : (s.nextSeq).light = s.light := rfl
@[simp] theorem State.nextSeq_stat (s : State) : (s.nextSeq).stat = s.stat := rfl
@[simp] theorem State.nextSeq_out (s : State) : (s.nextSeq).out = s.out := rfl
@[simp] theorem State.nextSeq_free (s : State) : (s.nextSeq).free = s.free := rfl

/-! ### setSession -/

@[simp] theorem State.setSession_pending (s : State) (n : Nat) (x : Session) : (s.setSession n x).pending = s.pending := rfl
@[simp] theorem State.setSession_sys (s : State) (n : Nat) (x : Session) : (s.setSession n x).sys = s.sys := rfl
@[simp] theorem State.setSession_cfg (s : State) (n : Nat) (x : Session) : (s.setSession n x).cfg = s.cfg := rfl
@[simp] theorem State.setSession_tb (s : State) (n : Nat) (x : Session) : (s.setSession n x).tb = s.tb := rfl
@[simp] theorem State.setSession_eth (s : State) (n : Nat) (x : Session) : (s.setSession n x).eth = s.eth := rfl
@[simp] theorem State.setSession_pulse (s : State) (n : Nat) (x : Session) : (s.setSession n x).pulse = s.pulse := rfl
@[simp] theorem State.setSession_ports (s : State) (n : Nat) (x : Session) : (s.setSession n x).ports = s.ports := rfl
@[simp] theorem State.setSession_stay (s : State) (n : Nat) (x : Session) : (s.setSession n x).stay = s.stay := rfl
@[simp] theorem State.setSession_groups (s : State) (n : Nat) (x : Session) : (s.setSession n x).groups = s.groups := rfl
@[simp] theorem State.setSession_hist (s : State) (n : Nat) (x : Session) : (s.setSession n x).hist = s.hist := rfl
@[simp] theorem State.setSession_trig (s : State) (n : Nat) (x : Session) : (s.setSession n x).trig = s.trig := rfl
@[simp] theorem State.setSession_cores (s : State) (n : Nat) (x : Session) : (s.setSession n x).cores = s.cores := rfl
@[simp] theorem State.setSession_host (s : State) (n : Nat) (x : Session) : (s.setSession n x).host = s.host := rfl
@[simp] theorem State.setSession_twin (s : State) (n : Nat) (x : Session) : (s.setSession n x).twin = s.twin := rfl
@[simp] theorem State.setSession_tins (s : State) (n : Nat) (x : Session) : (s.setSession n x).tins = s.tins := rfl
@[simp] theorem State.setSession_mon (s : State) (n : Nat) (x : Session) : (s.setSession n x).mon = s.mon := rfl
@[simp] theorem State.setSession_light (s : State) (n : Nat) (x : Session) : (s.setSession n x).light = s.light := rfl
@[simp] theorem State.setSession_stat (s : State) (n : Nat) (x : Session) : (s.setSession n x).stat = s.stat := rfl
@[simp] theorem State.setSession_out (s : State) (n : Nat) (x : Session) : (s.setSession n x).out = s.out := rfl
@[simp] theorem State.setSession_free (s : State) (n : Nat) (x : Session) : (s.setSession n x).free = s.free := rfl

/-! ### setPort -/

@[simp] theorem State.setPort_pending (s : State) (p : Nat) (x : Port) : (s.setPort p x).pending = s.pending := rfl
@[simp] theorem State.setPort_sys (s : State) (p : Nat) (x : Port) : (s.setPort p x).sys = s.sys := rfl
@[simp] theorem State.setPort_ctl (s : State) (p : Nat) (x : Port) : (s.setPort p x).ctl = s.ctl := rfl
@[simp] theorem State.setPort_cfg (s : State) (p : Nat) (x : Port) : (s.setPort p x).cfg = s.cfg := rfl
@[simp] theorem State.setPort_tb (s : State) (p : Nat) (x : Port) : (s.setPort p x).tb = s.tb := rfl
@[simp] theorem State.setPort_eth (s : State) (p : Nat) (x : Port) : (s.setPort p x).eth = s.eth := rfl
@[simp] theorem State.setPort_pulse (s : State) (p : Nat) (x : Port) : (s.setPort p x).pulse = s.pulse := rfl
@[simp] theorem State.setPort_stay (s : State) (p : Nat) (x : Port) : (s.setPort p x).stay = s.stay := rfl
@[simp] theorem State.setPort_groups (s : State) (p : Nat) (x : Port) : (s.setPort p x).groups = s.groups := rfl
@[simp] theorem State.setPort_hist (s : State) (p : Nat) (x : Port) : (s.setPort p x).hist = s.hist := rfl
@[simp] theorem State.setPort_trig (s : State) (p : Nat) (x : Port) : (s.setPort p x).trig = s.trig := rfl
@[simp] theorem State.setPort_cores (s : State) (p : Nat) (x : Port) : (s.setPort p x).cores = s.cores := rfl
@[simp] theorem State.setPort_host (s : State) (p : Nat) (x : Port) : (s.setPort p x).host = s.host := rfl
@[simp] theorem State.setPort_twin (s : State) (p : Nat) (x : Port) : (s.setPort p x).twin = s.twin := rfl
@[simp] theorem State.setPort_tins (s : State) (p : Nat) (x : Port) : (s.setPort p x).tins = s.tins := rfl
@[simp] theorem State.setPort_mon (s : State) (p : Nat) (x : Port) : (s.setPort p x).mon = s.mon := rfl
@[simp] theorem State.setPort_light (s : State) (p : Nat) (x : Port) : (s.setPort p x).light = s.light := rfl
@[simp] theorem State.setPort_stat (s : State) (p : Nat) (x : Port) : (s.setPort p x).stat = s.stat := rfl
@[simp] theorem State.setPort_out (s : State) (p : Nat) (x : Port) : (s.setPort p x).out = s.out := rfl
@[simp] theorem State.setPort_free (s : State) (p : Nat) (x : Port) : (s.setPort p x).free = s.free := rfl

/-! ### setCore -/

@[simp] theorem State.setCore_pending (s : State) (g : Nat) (x : Core) : (s.setCore g x).pending = s.pending := rfl
@[simp] theorem State.setCore_sys (s : State) (g : Nat) (x : Core) : (s.setCore g x).sys = s.sys := rfl
@[simp] theorem State.setCore_ctl (s : State) (g : Nat) (x : Core) : (s.setCore g x).ctl = s.ctl := rfl
@[simp] theorem State.setCore_cfg (s : State) (g : Nat) (x : Core) : (s.setCore g x).cfg = s.cfg := rfl
@[simp] theorem State.setCore_tb (s : State) (g : Nat) (x : Core) : (s.setCore g x).tb = s.tb := rfl
@[simp] theorem State.setCore_eth (s : State) (g : Nat) (x : Core) : (s.setCore g x).eth = s.eth := rfl
@[simp] theorem State.setCore_pulse (s : State) (g : Nat) (x : Core) : (s.setCore g x).pulse = s.pulse := rfl
@[simp] theorem State.setCore_ports (s : State) (g : Nat) (x : Core) : (s.setCore g x).ports = s.ports := rfl
@[simp] theorem State.setCore_stay (s : State) (g : Nat) (x : Core) : (s.setCore g x).stay = s.stay := rfl
@[simp] theorem State.setCore_groups (s : State) (g : Nat) (x : Core) : (s.setCore g x).groups = s.groups := rfl
@[simp] theorem State.setCore_hist (s : State) (g : Nat) (x : Core) : (s.setCore g x).hist = s.hist := rfl
@[simp] theorem State.setCore_trig (s : State) (g : Nat) (x : Core) : (s.setCore g x).trig = s.trig := rfl
@[simp] theorem State.setCore_host (s : State) (g : Nat) (x : Core) : (s.setCore g x).host = s.host := rfl
@[simp] theorem State.setCore_twin (s : State) (g : Nat) (x : Core) : (s.setCore g x).twin = s.twin := rfl
@[simp] theorem State.setCore_tins (s : State) (g : Nat) (x : Core) : (s.setCore g x).tins = s.tins := rfl
@[simp] theorem State.setCore_mon (s : State) (g : Nat) (x : Core) : (s.setCore g x).mon = s.mon := rfl
@[simp] theorem State.setCore_light (s : State) (g : Nat) (x : Core) : (s.setCore g x).light = s.light := rfl
@[simp] theorem State.setCore_stat (s : State) (g : Nat) (x : Core) : (s.setCore g x).stat = s.stat := rfl
@[simp] theorem State.setCore_out (s : State) (g : Nat) (x : Core) : (s.setCore g x).out = s.out := rfl
@[simp] theorem State.setCore_free (s : State) (g : Nat) (x : Core) : (s.setCore g x).free = s.free := rfl

/-! ### setQueue -/

@[simp] theorem State.setQueue_pending (s : State) (q : Nat) (x : Queue) : (s.setQueue q x).pending = s.pending := rfl
@[simp] theorem State.setQueue_sys (s : State) (q : Nat) (x : Queue) : (s.setQueue q x).sys = s.sys := rfl
@[simp] theorem State.setQueue_ctl (s : State) (q : Nat) (x : Queue) : (s.setQueue q x).ctl = s.ctl := rfl
@[simp] theorem State.setQueue_cfg (s : State) (q : Nat) (x : Queue) : (s.setQueue q x).cfg = s.cfg := rfl
@[simp] theorem State.setQueue_tb (s : State) (q : Nat) (x : Queue) : (s.setQueue q x).tb = s.tb := rfl
@[simp] theorem State.setQueue_eth (s : State) (q : Nat) (x : Queue) : (s.setQueue q x).eth = s.eth := rfl
@[simp] theorem State.setQueue_pulse (s : State) (q : Nat) (x : Queue) : (s.setQueue q x).pulse = s.pulse := rfl
@[simp] theorem State.setQueue_ports (s : State) (q : Nat) (x : Queue) : (s.setQueue q x).ports = s.ports := rfl
@[simp] theorem State.setQueue_stay (s : State) (q : Nat) (x : Queue) : (s.setQueue q x).stay = s.stay := rfl
@[simp] theorem State.setQueue_groups (s : State) (q : Nat) (x : Queue) : (s.setQueue q x).groups = s.groups := rfl
@[simp] theorem State.setQueue_hist (s : State) (q : Nat) (x : Queue) : (s.setQueue q x).hist = s.hist := rfl
@[simp] theorem State.setQueue_trig (s : State) (q : Nat) (x : Queue) : (s.setQueue q x).trig = s.trig := rfl
@[simp] theorem State.setQueue_cores (s : State) (q : Nat) (x : Queue) : (s.setQueue q x).cores = s.cores := rfl
@[simp] theorem State.setQueue_twin (s : State) (q : Nat) (x : Queue) : (s.setQueue q x).twin = s.twin := rfl
@[simp] theorem State.setQueue_tins (s : State) (q : Nat) (x : Queue) : (s.setQueue q x).tins = s.tins := rfl
@[simp] theorem State.setQueue_mon (s : State) (q : Nat) (x : Queue) : (s.setQueue q x).mon = s.mon := rfl
@[simp] theorem State.setQueue_light (s : State) (q : Nat) (x : Queue) : (s.setQueue q x).light = s.light := rfl
@[simp] theorem State.setQueue_stat (s : State) (q : Nat) (x : Queue) : (s.setQueue q x).stat = s.stat := rfl
@[simp] theorem State.setQueue_out (s : State) (q : Nat) (x : Queue) : (s.setQueue q x).out = s.out := rfl
@[simp] theorem State.setQueue_free (s : State) (q : Nat) (x : Queue) : (s.setQueue q x).free = s.free := rfl

/-! ### setGen -/

@[simp] theorem State.setGen_pending (s : State) (n : Nat) (x : PulseGen) : (s.setGen n x).pending = s.pending := rfl
@[simp] theorem State.setGen_sys (s : State) (n : Nat) (x : PulseGen) : (s.setGen n x).sys = s.sys := rfl
@[simp] theorem State.setGen_ctl (s : State) (n : Nat) (x : PulseGen) : (s.setGen n x).ctl = s.ctl := rfl
@[simp] theorem State.setGen_cfg (s : State) (n : Nat) (x : PulseGen) : (s.setGen n x).cfg = s.cfg := rfl
@[simp] theorem State.setGen_tb (s : State) (n : Nat) (x : PulseGen) : (s.setGen n x).tb = s.tb := rfl
@[simp] theorem State.setGen_eth (s : State) (n : Nat) (x : PulseGen) : (s.setGen n x).eth = s.eth := rfl
@[simp] theorem State.setGen_ports (s : State) (n : Nat) (x : PulseGen) : (s.setGen n x).ports = s.ports := rfl
@[simp] theorem State.setGen_stay (s : State) (n : Nat) (x : PulseGen) : (s.setGen n x).stay = s.stay := rfl
@[simp] theorem State.setGen_groups (s : State) (n : Nat) (x : PulseGen) : (s.setGen n x).groups = s.groups := rfl
@[simp] theorem State.setGen_hist (s : State) (n : Nat) (x : PulseGen) : (s.setGen n x).hist = s.hist := rfl
@[simp] theorem State.setGen_trig (s : State) (n : Nat) (x : PulseGen) : (s.setGen n x).trig = s.trig := rfl
@[simp] theorem State.setGen_cores (s : State) (n : Nat) (x : PulseGen) : (s.setGen n x).cores = s.cores := rfl
@[simp] theorem State.setGen_host (s : State) (n : Nat) (x : PulseGen) : (s.setGen n x).host = s.host := rfl
@[simp] theorem State.setGen_twin (s : State) (n : Nat) (x : PulseGen) : (s.setGen n x).twin = s.twin := rfl
@[simp] theorem State.setGen_tins (s : State) (n : Nat) (x : PulseGen) : (s.setGen n x).tins = s.tins := rfl
@[simp] theorem State.setGen_mon (s : State) (n : Nat) (x : PulseGen) : (s.setGen n x).mon = s.mon := rfl
@[simp] theorem State.setGen_light (s : State) (n : Nat) (x : PulseGen) : (s.setGen n x).light = s.light := rfl
@[simp] theorem State.setGen_stat (s : State) (n : Nat) (x : PulseGen) : (s.setGen n x).stat = s.stat := rfl
@[simp] theorem State.setGen_out (s : State) (n : Nat) (x : PulseGen) : (s.setGen n x).out = s.out := rfl
@[simp] theorem State.setGen_free (s : State) (n : Nat) (x : PulseGen) : (s.setGen n x).free = s.free := rfl

/-! ### setTin -/

@[simp] theorem State.setTin_pending (s : State) (n : Nat) (x : Tin) : (s.setTin n x).pending = s.pending := rfl
@[simp] theorem State.setTin_sys (s : State) (n : Nat) (x : Tin) : (s.setTin n x).sys = s.sys := rfl
@[simp] theorem State.setTin_ctl (s : State) (n : Nat) (x : Tin) : (s.setTin n x).ctl = s.ctl := rfl
@[simp] theorem State.setTin_cfg (s : State) (n : Nat) (x : Tin) : (s.setTin n x).cfg = s.cfg := rfl
@[simp] theorem State.setTin_tb (s : State) (n : Nat) (x : Tin) : (s.setTin n x).tb = s.tb := rfl
@[simp] theorem State.setTin_eth (s : State) (n : Nat) (x : Tin) : (s.setTin n x).eth = s.eth := rfl
@[simp] theorem State.setTin_pulse (s : State) (n : Nat) (x : Tin) : (s.setTin n x).pulse = s.pulse := rfl
@[simp] theorem State.setTin_ports (s : State) (n : Nat) (x : Tin) : (s.setTin n x).ports = s.ports := rfl
@[simp] theorem State.setTin_stay (s : State) (n : Nat) (x : Tin) : (s.setTin n x).stay = s.stay := rfl
@[simp] theorem State.setTin_groups (s : State) (n : Nat) (x : Tin) : (s.setTin n x).groups = s.groups := rfl
@[simp] theorem State.setTin_hist (s : State) (n : Nat) (x : Tin) : (s.setTin n x).hist = s.hist := rfl
@[simp] theorem State.setTin_trig (s : State) (n : Nat) (x : Tin) : (s.setTin n x).trig = s.trig := rfl
@[simp] theorem State.setTin_cores (s : State) (n : Nat) (x : Tin) : (s.setTin n x).cores = s.cores := rfl
@[simp] theorem State.setTin_host (s : State) (n : Nat) (x : Tin) : (s.setTin n x).host = s.host := rfl
@[simp] theorem State.setTin_twin (s : State) (n : Nat) (x : Tin) : (s.setTin n x).twin = s.twin := rfl
@[simp] theorem State.setTin_mon (s : State) (n : Nat) (x : Tin) : (s.setTin n x).mon = s.mon := rfl
@[simp] theorem State.setTin_light (s : State) (n : Nat) (x : Tin) : (s.setTin n x).light = s.light := rfl
@[simp] theorem State.setTin_stat (s : State) (n : Nat) (x : Tin) : (s.setTin n x).stat = s.stat := rfl
@[simp] theorem State.setTin_out (s : State) (n : Nat) (x : Tin) : (s.setTin n x).out = s.out := rfl
@[simp] theorem State.setTin_free (s : State) (n : Nat) (x : Tin) : (s.setTin n x).free = s.free := rfl

/-! ### setReady -/

@[simp] theorem State.setReady_pending (s : State) (v : Nat) : (s.setReady v).pending = s.pending := rfl
@[simp] theorem State.setReady_sys (s : State) (v : Nat) : (s.setReady v).sys = s.sys := rfl
@[simp] theorem State.setReady_ctl (s : State) (v : Nat) : (s.setReady v).ctl = s.ctl := rfl
@[simp] theorem State.setReady_cfg (s : State) (v : Nat) : (s.setReady v).cfg = s.cfg := rfl
@[simp] theorem State.setReady_tb (s : State) (v : Nat) : (s.setReady v).tb = s.tb := rfl
@[simp] theorem State.setReady_eth (s : State) (v : Nat) : (s.setReady v).eth = s.eth := rfl
@[simp] theorem State.setReady_pulse (s : State) (v : Nat) : (s.setReady v).pulse = s.pulse := rfl
@[simp] theorem State.setReady_ports (s : State) (v : Nat) : (s.setReady v).ports = s.ports := rfl
@[simp] theorem State.setReady_stay (s : State) (v : Nat) : (s.setReady v).stay = s.stay := rfl
@[simp] theorem State.setReady_groups (s : State) (v : Nat) : (s.setReady v).groups = s.groups := rfl
@[simp] theorem State.setReady_hist (s : State) (v : Nat) : (s.setReady v).hist = s.hist := rfl
@[simp] theorem State.setReady_trig (s : State) (v : Nat) : (s.setReady v).trig = s.trig := rfl
@[simp] theorem State.setReady_cores (s : State) (v : Nat) : (s.setReady v).cores = s.cores := rfl
@[simp] theorem State.setReady_host (s : State) (v : Nat) : (s.setReady v).host = s.host := rfl
@[simp] theorem State.setReady_tins (s : State) (v : Nat) : (s.setReady v).tins = s.tins := rfl
@[simp] theorem State.setReady_mon (s : State) (v : Nat) : (s.setReady v).mon = s.mon := rfl
@[simp] theorem State.setReady_light (s : State) (v : Nat) : (s.setReady v).light = s.light := rfl
@[simp] theorem State.setReady_stat (s : State) (v : Nat) : (s.setReady v).stat = s.stat := rfl
@[simp] theorem State.setReady_out (s : State) (v : Nat) : (s.setReady v).out = s.out := rfl
@[simp] theorem State.setReady_free (s : State) (v : Nat) : (s.setReady v).free = s.free := rfl

/-! ### What they change -/

@[simp] theorem State.elapse_c (s : State) (dt : Nat) :
    (s.elapse dt).tb.c = s.tb.c + BitVec.ofNat 64 (dt * tickFu) := rfl

@[simp] theorem State.core_setCore_same (s : State) (g : Nat) (x : Core) : (s.setCore g x).core g = x :=
  Tab.get_set_same _ _ _ _

@[simp] theorem State.core_setCore_ne (s : State) (g h : Nat) (x : Core) (hne : h ≠ g) :
    (s.setCore g x).core h = s.core h := Tab.get_set_ne _ _ _ _ _ hne

@[simp] theorem State.port_setPort_same (s : State) (p : Nat) (x : Port) : (s.setPort p x).port p = x :=
  Tab.get_set_same _ _ _ _

@[simp] theorem State.port_setPort_ne (s : State) (p q : Nat) (x : Port) (hne : q ≠ p) :
    (s.setPort p x).port q = s.port q := Tab.get_set_ne _ _ _ _ _ hne

@[simp] theorem State.queue_setQueue_same (s : State) (q : Nat) (x : Queue) : (s.setQueue q x).queue q = x :=
  Tab.get_set_same _ _ _ _

@[simp] theorem State.queue_setQueue_ne (s : State) (q r : Nat) (x : Queue) (hne : r ≠ q) :
    (s.setQueue q x).queue r = s.queue r := Tab.get_set_ne _ _ _ _ _ hne

@[simp] theorem State.gen_setGen_same (s : State) (n : Nat) (x : PulseGen) : (s.setGen n x).gen n = x :=
  Tab.get_set_same _ _ _ _

@[simp] theorem State.gen_setGen_ne (s : State) (n m : Nat) (x : PulseGen) (hne : m ≠ n) :
    (s.setGen n x).gen m = s.gen m := Tab.get_set_ne _ _ _ _ _ hne

@[simp] theorem State.tin_setTin_same (s : State) (n : Nat) (x : Tin) : (s.setTin n x).tin n = x :=
  Tab.get_set_same _ _ _ _

@[simp] theorem State.tin_setTin_ne (s : State) (n m : Nat) (x : Tin) (hne : m ≠ n) :
    (s.setTin n x).tin m = s.tin m := Tab.get_set_ne _ _ _ _ _ hne

@[simp] theorem State.count_setStat_same (s : State) (k v : Nat) : (s.setStat k v).count k = v :=
  Tab.get_set_same _ _ _ _

@[simp] theorem State.count_setStat_ne (s : State) (k j v : Nat) (hne : j ≠ k) : (s.setStat k v).count j = s.count j :=
  Tab.get_set_ne _ _ _ _ _ hne

@[simp] theorem State.count_bump_same (s : State) (k n : Nat) : (s.bump k n).count k = (s.count k + n) % 2 ^ 32 :=
  Tab.get_set_same _ _ _ _

@[simp] theorem State.count_bump_ne (s : State) (k j n : Nat) (hne : j ≠ k) : (s.bump k n).count j = s.count j :=
  Tab.get_set_ne _ _ _ _ _ hne

@[simp] theorem State.count_bump64_same (s : State) (k n : Nat) : (s.bump64 k n).count k = (s.count k + n) % 2 ^ 64 :=
  Tab.get_set_same _ _ _ _

@[simp] theorem State.count_bump64_ne (s : State) (k j n : Nat) (hne : j ≠ k) : (s.bump64 k n).count j = s.count j :=
  Tab.get_set_ne _ _ _ _ _ hne

@[simp] theorem State.session_setSession_same (s : State) (n : Nat) (x : Session) :
    (s.setSession n x).session n = some x := Tab.look_put_same _ _ _

@[simp] theorem State.session_setSession_ne (s : State) (n m : Nat) (x : Session) (hne : m ≠ n) :
    (s.setSession n x).session m = s.session m := Tab.look_put_ne _ _ _ _ hne

@[simp] theorem State.imm_setImm_same (s : State) (o : Obj) (v : Nat) : (s.setImm o v).imm o = v :=
  Tab.get_set_same _ _ _ _

/-! ### Reads through operations that touch something else -/

@[simp] theorem State.count_elapse (s : State) (dt : Nat) (j : Nat) : (s.elapse dt).count j = s.count j := rfl
@[simp] theorem State.core_elapse (s : State) (dt : Nat) (j : Nat) : (s.elapse dt).core j = s.core j := rfl
@[simp] theorem State.port_elapse (s : State) (dt : Nat) (j : Nat) : (s.elapse dt).port j = s.port j := rfl
@[simp] theorem State.queue_elapse (s : State) (dt : Nat) (j : Nat) : (s.elapse dt).queue j = s.queue j := rfl
@[simp] theorem State.gen_elapse (s : State) (dt : Nat) (j : Nat) : (s.elapse dt).gen j = s.gen j := rfl
@[simp] theorem State.tin_elapse (s : State) (dt : Nat) (j : Nat) : (s.elapse dt).tin j = s.tin j := rfl
@[simp] theorem State.session_elapse (s : State) (dt : Nat) (j : Nat) : (s.elapse dt).session j = s.session j := rfl
@[simp] theorem State.count_setImm (s : State) (o : Obj) (v : Nat) (j : Nat) : (s.setImm o v).count j = s.count j := rfl
@[simp] theorem State.core_setImm (s : State) (o : Obj) (v : Nat) (j : Nat) : (s.setImm o v).core j = s.core j := rfl
@[simp] theorem State.port_setImm (s : State) (o : Obj) (v : Nat) (j : Nat) : (s.setImm o v).port j = s.port j := rfl
@[simp] theorem State.queue_setImm (s : State) (o : Obj) (v : Nat) (j : Nat) : (s.setImm o v).queue j = s.queue j := rfl
@[simp] theorem State.gen_setImm (s : State) (o : Obj) (v : Nat) (j : Nat) : (s.setImm o v).gen j = s.gen j := rfl
@[simp] theorem State.tin_setImm (s : State) (o : Obj) (v : Nat) (j : Nat) : (s.setImm o v).tin j = s.tin j := rfl
@[simp] theorem State.session_setImm (s : State) (o : Obj) (v : Nat) (j : Nat) : (s.setImm o v).session j = s.session j := rfl
@[simp] theorem State.core_setStat (s : State) (k v : Nat) (j : Nat) : (s.setStat k v).core j = s.core j := rfl
@[simp] theorem State.port_setStat (s : State) (k v : Nat) (j : Nat) : (s.setStat k v).port j = s.port j := rfl
@[simp] theorem State.queue_setStat (s : State) (k v : Nat) (j : Nat) : (s.setStat k v).queue j = s.queue j := rfl
@[simp] theorem State.gen_setStat (s : State) (k v : Nat) (j : Nat) : (s.setStat k v).gen j = s.gen j := rfl
@[simp] theorem State.tin_setStat (s : State) (k v : Nat) (j : Nat) : (s.setStat k v).tin j = s.tin j := rfl
@[simp] theorem State.session_setStat (s : State) (k v : Nat) (j : Nat) : (s.setStat k v).session j = s.session j := rfl
@[simp] theorem State.core_bump (s : State) (k n : Nat) (j : Nat) : (s.bump k n).core j = s.core j := rfl
@[simp] theorem State.port_bump (s : State) (k n : Nat) (j : Nat) : (s.bump k n).port j = s.port j := rfl
@[simp] theorem State.queue_bump (s : State) (k n : Nat) (j : Nat) : (s.bump k n).queue j = s.queue j := rfl
@[simp] theorem State.gen_bump (s : State) (k n : Nat) (j : Nat) : (s.bump k n).gen j = s.gen j := rfl
@[simp] theorem State.tin_bump (s : State) (k n : Nat) (j : Nat) : (s.bump k n).tin j = s.tin j := rfl
@[simp] theorem State.session_bump (s : State) (k n : Nat) (j : Nat) : (s.bump k n).session j = s.session j := rfl
@[simp] theorem State.core_bump64 (s : State) (k n : Nat) (j : Nat) : (s.bump64 k n).core j = s.core j := rfl
@[simp] theorem State.port_bump64 (s : State) (k n : Nat) (j : Nat) : (s.bump64 k n).port j = s.port j := rfl
@[simp] theorem State.queue_bump64 (s : State) (k n : Nat) (j : Nat) : (s.bump64 k n).queue j = s.queue j := rfl
@[simp] theorem State.gen_bump64 (s : State) (k n : Nat) (j : Nat) : (s.bump64 k n).gen j = s.gen j := rfl
@[simp] theorem State.tin_bump64 (s : State) (k n : Nat) (j : Nat) : (s.bump64 k n).tin j = s.tin j := rfl
@[simp] theorem State.session_bump64 (s : State) (k n : Nat) (j : Nat) : (s.bump64 k n).session j = s.session j := rfl
@[simp] theorem State.count_emit (s : State) (o : Out) (j : Nat) : (s.emit o).count j = s.count j := rfl
@[simp] theorem State.core_emit (s : State) (o : Out) (j : Nat) : (s.emit o).core j = s.core j := rfl
@[simp] theorem State.port_emit (s : State) (o : Out) (j : Nat) : (s.emit o).port j = s.port j := rfl
@[simp] theorem State.queue_emit (s : State) (o : Out) (j : Nat) : (s.emit o).queue j = s.queue j := rfl
@[simp] theorem State.gen_emit (s : State) (o : Out) (j : Nat) : (s.emit o).gen j = s.gen j := rfl
@[simp] theorem State.tin_emit (s : State) (o : Out) (j : Nat) : (s.emit o).tin j = s.tin j := rfl
@[simp] theorem State.session_emit (s : State) (o : Out) (j : Nat) : (s.emit o).session j = s.session j := rfl
@[simp] theorem State.count_nextFree (s : State) (j : Nat) : (s.nextFree).count j = s.count j := rfl
@[simp] theorem State.core_nextFree (s : State) (j : Nat) : (s.nextFree).core j = s.core j := rfl
@[simp] theorem State.port_nextFree (s : State) (j : Nat) : (s.nextFree).port j = s.port j := rfl
@[simp] theorem State.queue_nextFree (s : State) (j : Nat) : (s.nextFree).queue j = s.queue j := rfl
@[simp] theorem State.gen_nextFree (s : State) (j : Nat) : (s.nextFree).gen j = s.gen j := rfl
@[simp] theorem State.tin_nextFree (s : State) (j : Nat) : (s.nextFree).tin j = s.tin j := rfl
@[simp] theorem State.session_nextFree (s : State) (j : Nat) : (s.nextFree).session j = s.session j := rfl
@[simp] theorem State.count_nextSeq (s : State) (j : Nat) : (s.nextSeq).count j = s.count j := rfl
@[simp] theorem State.core_nextSeq (s : State) (j : Nat) : (s.nextSeq).core j = s.core j := rfl
@[simp] theorem State.port_nextSeq (s : State) (j : Nat) : (s.nextSeq).port j = s.port j := rfl
@[simp] theorem State.queue_nextSeq (s : State) (j : Nat) : (s.nextSeq).queue j = s.queue j := rfl
@[simp] theorem State.gen_nextSeq (s : State) (j : Nat) : (s.nextSeq).gen j = s.gen j := rfl
@[simp] theorem State.tin_nextSeq (s : State) (j : Nat) : (s.nextSeq).tin j = s.tin j := rfl
@[simp] theorem State.count_setSession (s : State) (n : Nat) (x : Session) (j : Nat) : (s.setSession n x).count j = s.count j := rfl
@[simp] theorem State.core_setSession (s : State) (n : Nat) (x : Session) (j : Nat) : (s.setSession n x).core j = s.core j := rfl
@[simp] theorem State.port_setSession (s : State) (n : Nat) (x : Session) (j : Nat) : (s.setSession n x).port j = s.port j := rfl
@[simp] theorem State.queue_setSession (s : State) (n : Nat) (x : Session) (j : Nat) : (s.setSession n x).queue j = s.queue j := rfl
@[simp] theorem State.gen_setSession (s : State) (n : Nat) (x : Session) (j : Nat) : (s.setSession n x).gen j = s.gen j := rfl
@[simp] theorem State.tin_setSession (s : State) (n : Nat) (x : Session) (j : Nat) : (s.setSession n x).tin j = s.tin j := rfl
@[simp] theorem State.count_setPort (s : State) (p : Nat) (x : Port) (j : Nat) : (s.setPort p x).count j = s.count j := rfl
@[simp] theorem State.core_setPort (s : State) (p : Nat) (x : Port) (j : Nat) : (s.setPort p x).core j = s.core j := rfl
@[simp] theorem State.queue_setPort (s : State) (p : Nat) (x : Port) (j : Nat) : (s.setPort p x).queue j = s.queue j := rfl
@[simp] theorem State.gen_setPort (s : State) (p : Nat) (x : Port) (j : Nat) : (s.setPort p x).gen j = s.gen j := rfl
@[simp] theorem State.tin_setPort (s : State) (p : Nat) (x : Port) (j : Nat) : (s.setPort p x).tin j = s.tin j := rfl
@[simp] theorem State.session_setPort (s : State) (p : Nat) (x : Port) (j : Nat) : (s.setPort p x).session j = s.session j := rfl
@[simp] theorem State.count_setCore (s : State) (g : Nat) (x : Core) (j : Nat) : (s.setCore g x).count j = s.count j := rfl
@[simp] theorem State.port_setCore (s : State) (g : Nat) (x : Core) (j : Nat) : (s.setCore g x).port j = s.port j := rfl
@[simp] theorem State.queue_setCore (s : State) (g : Nat) (x : Core) (j : Nat) : (s.setCore g x).queue j = s.queue j := rfl
@[simp] theorem State.gen_setCore (s : State) (g : Nat) (x : Core) (j : Nat) : (s.setCore g x).gen j = s.gen j := rfl
@[simp] theorem State.tin_setCore (s : State) (g : Nat) (x : Core) (j : Nat) : (s.setCore g x).tin j = s.tin j := rfl
@[simp] theorem State.session_setCore (s : State) (g : Nat) (x : Core) (j : Nat) : (s.setCore g x).session j = s.session j := rfl
@[simp] theorem State.count_setQueue (s : State) (q : Nat) (x : Queue) (j : Nat) : (s.setQueue q x).count j = s.count j := rfl
@[simp] theorem State.core_setQueue (s : State) (q : Nat) (x : Queue) (j : Nat) : (s.setQueue q x).core j = s.core j := rfl
@[simp] theorem State.port_setQueue (s : State) (q : Nat) (x : Queue) (j : Nat) : (s.setQueue q x).port j = s.port j := rfl
@[simp] theorem State.gen_setQueue (s : State) (q : Nat) (x : Queue) (j : Nat) : (s.setQueue q x).gen j = s.gen j := rfl
@[simp] theorem State.tin_setQueue (s : State) (q : Nat) (x : Queue) (j : Nat) : (s.setQueue q x).tin j = s.tin j := rfl
@[simp] theorem State.session_setQueue (s : State) (q : Nat) (x : Queue) (j : Nat) : (s.setQueue q x).session j = s.session j := rfl
@[simp] theorem State.count_setGen (s : State) (n : Nat) (x : PulseGen) (j : Nat) : (s.setGen n x).count j = s.count j := rfl
@[simp] theorem State.core_setGen (s : State) (n : Nat) (x : PulseGen) (j : Nat) : (s.setGen n x).core j = s.core j := rfl
@[simp] theorem State.port_setGen (s : State) (n : Nat) (x : PulseGen) (j : Nat) : (s.setGen n x).port j = s.port j := rfl
@[simp] theorem State.queue_setGen (s : State) (n : Nat) (x : PulseGen) (j : Nat) : (s.setGen n x).queue j = s.queue j := rfl
@[simp] theorem State.tin_setGen (s : State) (n : Nat) (x : PulseGen) (j : Nat) : (s.setGen n x).tin j = s.tin j := rfl
@[simp] theorem State.session_setGen (s : State) (n : Nat) (x : PulseGen) (j : Nat) : (s.setGen n x).session j = s.session j := rfl
@[simp] theorem State.count_setTin (s : State) (n : Nat) (x : Tin) (j : Nat) : (s.setTin n x).count j = s.count j := rfl
@[simp] theorem State.core_setTin (s : State) (n : Nat) (x : Tin) (j : Nat) : (s.setTin n x).core j = s.core j := rfl
@[simp] theorem State.port_setTin (s : State) (n : Nat) (x : Tin) (j : Nat) : (s.setTin n x).port j = s.port j := rfl
@[simp] theorem State.queue_setTin (s : State) (n : Nat) (x : Tin) (j : Nat) : (s.setTin n x).queue j = s.queue j := rfl
@[simp] theorem State.gen_setTin (s : State) (n : Nat) (x : Tin) (j : Nat) : (s.setTin n x).gen j = s.gen j := rfl
@[simp] theorem State.session_setTin (s : State) (n : Nat) (x : Tin) (j : Nat) : (s.setTin n x).session j = s.session j := rfl
@[simp] theorem State.count_setReady (s : State) (v : Nat) (j : Nat) : (s.setReady v).count j = s.count j := rfl
@[simp] theorem State.core_setReady (s : State) (v : Nat) (j : Nat) : (s.setReady v).core j = s.core j := rfl
@[simp] theorem State.port_setReady (s : State) (v : Nat) (j : Nat) : (s.setReady v).port j = s.port j := rfl
@[simp] theorem State.queue_setReady (s : State) (v : Nat) (j : Nat) : (s.setReady v).queue j = s.queue j := rfl
@[simp] theorem State.gen_setReady (s : State) (v : Nat) (j : Nat) : (s.setReady v).gen j = s.gen j := rfl
@[simp] theorem State.tin_setReady (s : State) (v : Nat) (j : Nat) : (s.setReady v).tin j = s.tin j := rfl
@[simp] theorem State.session_setReady (s : State) (v : Nat) (j : Nat) : (s.setReady v).session j = s.session j := rfl

end Sys2Proof.Machine
end

