-- ==== Sys2Proof/Laws/Fp.lean ====
section
/-! SUPPORT. The feature processors: what fetching, issuing and the end of a loop do, and the laws of the register file. -/

set_option Elab.async false

namespace Sys2Proof.Machine

/-! ### The register file -/

@[simp] theorem Regs.dreg_setD_same (r : Regs) (i : BitVec 3) (v : BitVec 24) : (r.setD i v).dreg i = v := by
  show (r.d.set i.toNat v i.isLt)[i.toNat] = v
  exact Vector.getElem_set_self ..

@[simp] theorem Regs.dreg_setD_ne (r : Regs) (i j : BitVec 3) (v : BitVec 24) (h : j ≠ i) :
    (r.setD i v).dreg j = r.dreg j := by
  have h' : i.toNat ≠ j.toNat := fun e => h (BitVec.eq_of_toNat_eq e.symm)
  show (r.d.set i.toNat v i.isLt)[j.toNat] = r.d[j.toNat]
  exact Vector.getElem_set_ne _ _ h'

@[simp] theorem Regs.acc_setA_same (r : Regs) (i : BitVec 2) (v : BitVec 56) : (r.setA i v).acc i = v := by
  show (r.a.set i.toNat v i.isLt)[i.toNat] = v
  exact Vector.getElem_set_self ..

@[simp] theorem Regs.acc_setA_ne (r : Regs) (i j : BitVec 2) (v : BitVec 56) (h : j ≠ i) :
    (r.setA i v).acc j = r.acc j := by
  have h' : i.toNat ≠ j.toNat := fun e => h (BitVec.eq_of_toNat_eq e.symm)
  show (r.a.set i.toNat v i.isLt)[j.toNat] = r.a[j.toNat]
  exact Vector.getElem_set_ne _ _ h'

@[simp] theorem Regs.ptr_setP_same (r : Regs) (i : BitVec 3) (v : BitVec 16) : (r.setP i v).ptr i = v := by
  show (r.p.set i.toNat v i.isLt)[i.toNat] = v
  exact Vector.getElem_set_self ..

@[simp] theorem Regs.ptr_setP_ne (r : Regs) (i j : BitVec 3) (v : BitVec 16) (h : j ≠ i) :
    (r.setP i v).ptr j = r.ptr j := by
  have h' : i.toNat ≠ j.toNat := fun e => h (BitVec.eq_of_toNat_eq e.symm)
  show (r.p.set i.toNat v i.isLt)[j.toNat] = r.p[j.toNat]
  exact Vector.getElem_set_ne _ _ h'

@[simp] theorem Regs.off_setN_same (r : Regs) (i : BitVec 3) (v : BitVec 16) : (r.setN i v).off i = v := by
  show (r.n.set i.toNat v i.isLt)[i.toNat] = v
  exact Vector.getElem_set_self ..

@[simp] theorem Regs.off_setN_ne (r : Regs) (i j : BitVec 3) (v : BitVec 16) (h : j ≠ i) :
    (r.setN i v).off j = r.off j := by
  have h' : i.toNat ≠ j.toNat := fun e => h (BitVec.eq_of_toNat_eq e.symm)
  show (r.n.set i.toNat v i.isLt)[j.toNat] = r.n[j.toNat]
  exact Vector.getElem_set_ne _ _ h'

@[simp] theorem Regs.cnt_setLC_same (r : Regs) (i : BitVec 2) (v : BitVec 16) : (r.setLC i v).cnt i = v := by
  show (r.lc.set i.toNat v i.isLt)[i.toNat] = v
  exact Vector.getElem_set_self ..

@[simp] theorem Regs.cnt_setLC_ne (r : Regs) (i j : BitVec 2) (v : BitVec 16) (h : j ≠ i) :
    (r.setLC i v).cnt j = r.cnt j := by
  have h' : i.toNat ≠ j.toNat := fun e => h (BitVec.eq_of_toNat_eq e.symm)
  show (r.lc.set i.toNat v i.isLt)[j.toNat] = r.lc[j.toNat]
  exact Vector.getElem_set_ne _ _ h'

@[simp] theorem Regs.setD_a (r : Regs) (i : BitVec 3) (v : BitVec 24) : (r.setD i v).a = r.a := rfl
@[simp] theorem Regs.setD_p (r : Regs) (i : BitVec 3) (v : BitVec 24) : (r.setD i v).p = r.p := rfl
@[simp] theorem Regs.setD_n (r : Regs) (i : BitVec 3) (v : BitVec 24) : (r.setD i v).n = r.n := rfl
@[simp] theorem Regs.setD_lc (r : Regs) (i : BitVec 3) (v : BitVec 24) : (r.setD i v).lc = r.lc := rfl
@[simp] theorem Regs.setD_sr (r : Regs) (i : BitVec 3) (v : BitVec 24) : (r.setD i v).sr = r.sr := rfl
@[simp] theorem Regs.setD_pc (r : Regs) (i : BitVec 3) (v : BitVec 24) : (r.setD i v).pc = r.pc := rfl
@[simp] theorem Regs.setD_loops (r : Regs) (i : BitVec 3) (v : BitVec 24) : (r.setD i v).loops = r.loops := rfl
@[simp] theorem Regs.acc_setD (r : Regs) (i : BitVec 3) (v : BitVec 24) (j : BitVec 2) : (r.setD i v).acc j = r.acc j := rfl
@[simp] theorem Regs.ptr_setD (r : Regs) (i : BitVec 3) (v : BitVec 24) (j : BitVec 3) : (r.setD i v).ptr j = r.ptr j := rfl
@[simp] theorem Regs.off_setD (r : Regs) (i : BitVec 3) (v : BitVec 24) (j : BitVec 3) : (r.setD i v).off j = r.off j := rfl
@[simp] theorem Regs.cnt_setD (r : Regs) (i : BitVec 3) (v : BitVec 24) (j : BitVec 2) : (r.setD i v).cnt j = r.cnt j := rfl
@[simp] theorem Regs.flag_setD (r : Regs) (i : BitVec 3) (v : BitVec 24) (j : Nat) : (r.setD i v).flag j = r.flag j := rfl
@[simp] theorem Regs.setA_d (r : Regs) (i : BitVec 2) (v : BitVec 56) : (r.setA i v).d = r.d := rfl
@[simp] theorem Regs.setA_p (r : Regs) (i : BitVec 2) (v : BitVec 56) : (r.setA i v).p = r.p := rfl
@[simp] theorem Regs.setA_n (r : Regs) (i : BitVec 2) (v : BitVec 56) : (r.setA i v).n = r.n := rfl
@[simp] theorem Regs.setA_lc (r : Regs) (i : BitVec 2) (v : BitVec 56) : (r.setA i v).lc = r.lc := rfl
@[simp] theorem Regs.setA_sr (r : Regs) (i : BitVec 2) (v : BitVec 56) : (r.setA i v).sr = r.sr := rfl
@[simp] theorem Regs.setA_pc (r : Regs) (i : BitVec 2) (v : BitVec 56) : (r.setA i v).pc = r.pc := rfl
@[simp] theorem Regs.setA_loops (r : Regs) (i : BitVec 2) (v : BitVec 56) : (r.setA i v).loops = r.loops := rfl
@[simp] theorem Regs.dreg_setA (r : Regs) (i : BitVec 2) (v : BitVec 56) (j : BitVec 3) : (r.setA i v).dreg j = r.dreg j := rfl
@[simp] theorem Regs.ptr_setA (r : Regs) (i : BitVec 2) (v : BitVec 56) (j : BitVec 3) : (r.setA i v).ptr j = r.ptr j := rfl
@[simp] theorem Regs.off_setA (r : Regs) (i : BitVec 2) (v : BitVec 56) (j : BitVec 3) : (r.setA i v).off j = r.off j := rfl
@[simp] theorem Regs.cnt_setA (r : Regs) (i : BitVec 2) (v : BitVec 56) (j : BitVec 2) : (r.setA i v).cnt j = r.cnt j := rfl
@[simp] theorem Regs.flag_setA (r : Regs) (i : BitVec 2) (v : BitVec 56) (j : Nat) : (r.setA i v).flag j = r.flag j := rfl
@[simp] theorem Regs.setP_d (r : Regs) (i : BitVec 3) (v : BitVec 16) : (r.setP i v).d = r.d := rfl
@[simp] theorem Regs.setP_a (r : Regs) (i : BitVec 3) (v : BitVec 16) : (r.setP i v).a = r.a := rfl
@[simp] theorem Regs.setP_n (r : Regs) (i : BitVec 3) (v : BitVec 16) : (r.setP i v).n = r.n := rfl
@[simp] theorem Regs.setP_lc (r : Regs) (i : BitVec 3) (v : BitVec 16) : (r.setP i v).lc = r.lc := rfl
@[simp] theorem Regs.setP_sr (r : Regs) (i : BitVec 3) (v : BitVec 16) : (r.setP i v).sr = r.sr := rfl
@[simp] theorem Regs.setP_pc (r : Regs) (i : BitVec 3) (v : BitVec 16) : (r.setP i v).pc = r.pc := rfl
@[simp] theorem Regs.setP_loops (r : Regs) (i : BitVec 3) (v : BitVec 16) : (r.setP i v).loops = r.loops := rfl
@[simp] theorem Regs.dreg_setP (r : Regs) (i : BitVec 3) (v : BitVec 16) (j : BitVec 3) : (r.setP i v).dreg j = r.dreg j := rfl
@[simp] theorem Regs.acc_setP (r : Regs) (i : BitVec 3) (v : BitVec 16) (j : BitVec 2) : (r.setP i v).acc j = r.acc j := rfl
@[simp] theorem Regs.off_setP (r : Regs) (i : BitVec 3) (v : BitVec 16) (j : BitVec 3) : (r.setP i v).off j = r.off j := rfl
@[simp] theorem Regs.cnt_setP (r : Regs) (i : BitVec 3) (v : BitVec 16) (j : BitVec 2) : (r.setP i v).cnt j = r.cnt j := rfl
@[simp] theorem Regs.flag_setP (r : Regs) (i : BitVec 3) (v : BitVec 16) (j : Nat) : (r.setP i v).flag j = r.flag j := rfl
@[simp] theorem Regs.setN_d (r : Regs) (i : BitVec 3) (v : BitVec 16) : (r.setN i v).d = r.d := rfl
@[simp] theorem Regs.setN_a (r : Regs) (i : BitVec 3) (v : BitVec 16) : (r.setN i v).a = r.a := rfl
@[simp] theorem Regs.setN_p (r : Regs) (i : BitVec 3) (v : BitVec 16) : (r.setN i v).p = r.p := rfl
@[simp] theorem Regs.setN_lc (r : Regs) (i : BitVec 3) (v : BitVec 16) : (r.setN i v).lc = r.lc := rfl
@[simp] theorem Regs.setN_sr (r : Regs) (i : BitVec 3) (v : BitVec 16) : (r.setN i v).sr = r.sr := rfl
@[simp] theorem Regs.setN_pc (r : Regs) (i : BitVec 3) (v : BitVec 16) : (r.setN i v).pc = r.pc := rfl
@[simp] theorem Regs.setN_loops (r : Regs) (i : BitVec 3) (v : BitVec 16) : (r.setN i v).loops = r.loops := rfl
@[simp] theorem Regs.dreg_setN (r : Regs) (i : BitVec 3) (v : BitVec 16) (j : BitVec 3) : (r.setN i v).dreg j = r.dreg j := rfl
@[simp] theorem Regs.acc_setN (r : Regs) (i : BitVec 3) (v : BitVec 16) (j : BitVec 2) : (r.setN i v).acc j = r.acc j := rfl
@[simp] theorem Regs.ptr_setN (r : Regs) (i : BitVec 3) (v : BitVec 16) (j : BitVec 3) : (r.setN i v).ptr j = r.ptr j := rfl
@[simp] theorem Regs.cnt_setN (r : Regs) (i : BitVec 3) (v : BitVec 16) (j : BitVec 2) : (r.setN i v).cnt j = r.cnt j := rfl
@[simp] theorem Regs.flag_setN (r : Regs) (i : BitVec 3) (v : BitVec 16) (j : Nat) : (r.setN i v).flag j = r.flag j := rfl
@[simp] theorem Regs.setLC_d (r : Regs) (i : BitVec 2) (v : BitVec 16) : (r.setLC i v).d = r.d := rfl
@[simp] theorem Regs.setLC_a (r : Regs) (i : BitVec 2) (v : BitVec 16) : (r.setLC i v).a = r.a := rfl
@[simp] theorem Regs.setLC_p (r : Regs) (i : BitVec 2) (v : BitVec 16) : (r.setLC i v).p = r.p := rfl
@[simp] theorem Regs.setLC_n (r : Regs) (i : BitVec 2) (v : BitVec 16) : (r.setLC i v).n = r.n := rfl
@[simp] theorem Regs.setLC_sr (r : Regs) (i : BitVec 2) (v : BitVec 16) : (r.setLC i v).sr = r.sr := rfl
@[simp] theorem Regs.setLC_pc (r : Regs) (i : BitVec 2) (v : BitVec 16) : (r.setLC i v).pc = r.pc := rfl
@[simp] theorem Regs.setLC_loops (r : Regs) (i : BitVec 2) (v : BitVec 16) : (r.setLC i v).loops = r.loops := rfl
@[simp] theorem Regs.dreg_setLC (r : Regs) (i : BitVec 2) (v : BitVec 16) (j : BitVec 3) : (r.setLC i v).dreg j = r.dreg j := rfl
@[simp] theorem Regs.acc_setLC (r : Regs) (i : BitVec 2) (v : BitVec 16) (j : BitVec 2) : (r.setLC i v).acc j = r.acc j := rfl
@[simp] theorem Regs.ptr_setLC (r : Regs) (i : BitVec 2) (v : BitVec 16) (j : BitVec 3) : (r.setLC i v).ptr j = r.ptr j := rfl
@[simp] theorem Regs.off_setLC (r : Regs) (i : BitVec 2) (v : BitVec 16) (j : BitVec 3) : (r.setLC i v).off j = r.off j := rfl
@[simp] theorem Regs.flag_setLC (r : Regs) (i : BitVec 2) (v : BitVec 16) (j : Nat) : (r.setLC i v).flag j = r.flag j := rfl
@[simp] theorem Regs.setSr_d (r : Regs) (v : BitVec 16) : (r.setSr v).d = r.d := rfl
@[simp] theorem Regs.setSr_a (r : Regs) (v : BitVec 16) : (r.setSr v).a = r.a := rfl
@[simp] theorem Regs.setSr_p (r : Regs) (v : BitVec 16) : (r.setSr v).p = r.p := rfl
@[simp] theorem Regs.setSr_n (r : Regs) (v : BitVec 16) : (r.setSr v).n = r.n := rfl
@[simp] theorem Regs.setSr_lc (r : Regs) (v : BitVec 16) : (r.setSr v).lc = r.lc := rfl
@[simp] theorem Regs.setSr_pc (r : Regs) (v : BitVec 16) : (r.setSr v).pc = r.pc := rfl
@[simp] theorem Regs.setSr_loops (r : Regs) (v : BitVec 16) : (r.setSr v).loops = r.loops := rfl
@[simp] theorem Regs.dreg_setSr (r : Regs) (v : BitVec 16) (j : BitVec 3) : (r.setSr v).dreg j = r.dreg j := rfl
@[simp] theorem Regs.acc_setSr (r : Regs) (v : BitVec 16) (j : BitVec 2) : (r.setSr v).acc j = r.acc j := rfl
@[simp] theorem Regs.ptr_setSr (r : Regs) (v : BitVec 16) (j : BitVec 3) : (r.setSr v).ptr j = r.ptr j := rfl
@[simp] theorem Regs.off_setSr (r : Regs) (v : BitVec 16) (j : BitVec 3) : (r.setSr v).off j = r.off j := rfl
@[simp] theorem Regs.cnt_setSr (r : Regs) (v : BitVec 16) (j : BitVec 2) : (r.setSr v).cnt j = r.cnt j := rfl
@[simp] theorem Regs.sr_setSr (r : Regs) (v : BitVec 16) : (r.setSr v).sr = v := rfl

/-! ### Bits of SR -/

/-- Writing one bit of SR changes that bit alone. -/
theorem getLsbD_putBit (sr : BitVec 16) (n m : Nat) (b : Bool) (hn : n < 16) :
    (putBit sr n b).getLsbD m = if m = n then b else sr.getLsbD m := by
  unfold putBit
  have h1 : (1#16 <<< n).getLsbD m = decide (m = n) := by
    rw [BitVec.getLsbD_shiftLeft, BitVec.getLsbD_one]
    by_cases h : m = n
    · subst h
      simp [hn]
    · simp only [h, decide_false, Bool.and_eq_false_imp, decide_eq_false_iff_not]
      intro a b
      simp only [Bool.not_eq_true', decide_eq_false_iff_not, Bool.and_eq_true, decide_eq_true_eq] at a b
      omega
  by_cases h : m = n
  · subst h
    cases b <;> simp [hn]
  · have h2 : (~~~(1#16 <<< n)).getLsbD m = decide (m < 16) := by
      rw [BitVec.getLsbD_not, h1]
      simp [h]
    cases b
    · simp only [Bool.false_eq_true, if_false, BitVec.getLsbD_and, h2, h]
      by_cases hm : m < 16
      · simp [hm]
      · simp [BitVec.getLsbD_of_ge sr m (by omega)]
    · simp [h1, h]

/-! ### Loop ends (R197) -/

@[simp] theorem loopEnd_d (pc : Nat) (l : List (Nat × Nat)) (r : Regs) : (loopEnd pc l r).d = r.d := by
  induction l with
  | nil => rfl
  | cons x l ih => unfold loopEnd; split <;> [split; skip] <;> first | rfl | exact ih

@[simp] theorem loopEnd_a (pc : Nat) (l : List (Nat × Nat)) (r : Regs) : (loopEnd pc l r).a = r.a := by
  induction l with
  | nil => rfl
  | cons x l ih => unfold loopEnd; split <;> [split; skip] <;> first | rfl | exact ih

@[simp] theorem loopEnd_p (pc : Nat) (l : List (Nat × Nat)) (r : Regs) : (loopEnd pc l r).p = r.p := by
  induction l with
  | nil => rfl
  | cons x l ih => unfold loopEnd; split <;> [split; skip] <;> first | rfl | exact ih

@[simp] theorem loopEnd_n (pc : Nat) (l : List (Nat × Nat)) (r : Regs) : (loopEnd pc l r).n = r.n := by
  induction l with
  | nil => rfl
  | cons x l ih => unfold loopEnd; split <;> [split; skip] <;> first | rfl | exact ih

@[simp] theorem loopEnd_sr (pc : Nat) (l : List (Nat × Nat)) (r : Regs) : (loopEnd pc l r).sr = r.sr := by
  induction l with
  | nil => rfl
  | cons x l ih => unfold loopEnd; split <;> [split; skip] <;> first | rfl | exact ih

@[simp] theorem loopEnd_dreg (pc : Nat) (l : List (Nat × Nat)) (r : Regs) (j : BitVec 3) :
    (loopEnd pc l r).dreg j = r.dreg j := by simp [Regs.dreg]

@[simp] theorem loopEnd_acc (pc : Nat) (l : List (Nat × Nat)) (r : Regs) (j : BitVec 2) :
    (loopEnd pc l r).acc j = r.acc j := by simp [Regs.acc]

@[simp] theorem loopEnd_ptr (pc : Nat) (l : List (Nat × Nat)) (r : Regs) (j : BitVec 3) :
    (loopEnd pc l r).ptr j = r.ptr j := by simp [Regs.ptr]

@[simp] theorem loopEnd_off (pc : Nat) (l : List (Nat × Nat)) (r : Regs) (j : BitVec 3) :
    (loopEnd pc l r).off j = r.off j := by simp [Regs.off]

@[simp] theorem loopEnd_flag (pc : Nat) (l : List (Nat × Nat)) (r : Regs) (j : Nat) :
    (loopEnd pc l r).flag j = r.flag j := by simp [Regs.flag]

/-- Where no loop ends, the core goes on at the next word. -/
theorem loopEnd_next (pc : Nat) (r : Regs) (h : ∀ l, r.loops.getLast? = some l → l.2 ≠ pc) :
    (loopEnd pc r.loops.reverse r).pc = pc + 1 ∧ (loopEnd pc r.loops.reverse r).loops = r.loops ∧
      (loopEnd pc r.loops.reverse r).lc = r.lc := by
  rcases hr : r.loops.reverse with _ | ⟨l, outer⟩
  · have : r.loops = [] := by simpa using hr
    simp [loopEnd, this]
  · have hl : r.loops = outer.reverse ++ [l] := by
      have := congrArg List.reverse hr
      simpa using this
    have hne : l.2 ≠ pc := h l (by simp [hl])
    obtain ⟨a, b⟩ := l
    simp only at hne
    simp [loopEnd, hne, hl]

theorem nextWord_after (r r1 : Regs) (hpc : r1.pc = r.pc) (hl : r1.loops = r.loops) (hc : r1.lc = r.lc) :
    NextWord r (loopEnd r1.pc r1.loops.reverse r1) := by
  intro h
  have := loopEnd_next r1.pc r1 (by rw [hl, hpc]; exact h)
  rw [hpc, hl, hc] at this
  rw [hpc, hl]
  exact this

/-! ### Issuing an instruction (R199) -/

/-- A ready instruction is what the fetch finds. -/
theorem fetch_of_ready (g : CoreId) (i : Instr) (s : State) (h : FpReady g i s) :
    (s.core g.val).fetch g = .instr i := by
  unfold Core.fetch
  have h1 := h.busy
  have h2 := h.range
  have h3 := h.sound
  have h4 := h.word
  have h5 := h.fits
  simp_all

/-- The counters of R216 that an instruction may change are three objects. -/
theorem core_counters_differ (g : Nat) : kCoreAccessFaults g ≠ kCoreCyclesUsed g ∧
    kCoreEmitOverflow g ≠ kCoreCyclesUsed g ∧ kCoreEmitOverflow g ≠ kCoreAccessFaults g := by
  simp [kCoreAccessFaults, kCoreCyclesUsed, kCoreEmitOverflow, key]

/-- A ready instruction that neither ends the packet nor meets LOOP_DEPTH: cycles and counters, and the core after it. -/
theorem fpIssue_of_ready (g : CoreId) (i : Instr) (s : State) (h : FpReady g i s)
    (h1 : (fpEffect i (s.core g.val)).flow ≠ .done) (h2 : (fpEffect i (s.core g.val)).flow ≠ .depth) :
    s.fpIssue g i = (((s.spend g.val i).bump (kCoreAccessFaults g.val) (fpEffect i (s.core g.val)).faults).bump
      (kCoreEmitOverflow g.val) (fpEffect i (s.core g.val)).dropped).setCore g.val ((fpEffect i (s.core g.val)).after i) := by
  unfold State.fpIssue
  have h3 := fetch_of_ready g i s h
  have h4 := h.paid
  have h5 := h.reads
  obtain ⟨k, hk⟩ := Option.isSome_iff_exists.mp h.packet
  cases hf : (fpEffect i (s.core g.val)).flow <;> simp_all

/-- Such an instruction stays in its core and its counters. -/
theorem fpFrame_of_ready (g : CoreId) (i : Instr) (s : State) (h : FpReady g i s)
    (h1 : (fpEffect i (s.core g.val)).flow ≠ .done) (h2 : (fpEffect i (s.core g.val)).flow ≠ .depth)
    (hb : (fpEffect i (s.core g.val)).core.budget = (s.core g.val).budget) :
    FpFrame g (fpCost i) s (s.fpIssue g i) := by
  rw [fpIssue_of_ready g i s h h1 h2]
  obtain ⟨k1, k2, k3⟩ := core_counters_differ g.val
  constructor
  · simp [FpResult.after, hb]
  · simp [State.spend, k1.symm, k2.symm]
  · intro j hj
    simp [State.spend, hj]
  · intro k a b c
    simp [State.spend, a, b, c]
  · simp only [State.spend, State.setCore, State.bump, State.bump64, State.setStat]

end Sys2Proof.Machine
end

