-- ==== Sys2Proof/Laws/LineCode.lean ====
section
/-! SUPPORT. The bits of a frame give the frame back (R76 to R78), and a receiver can be given any bits (R75). -/

namespace Sys2Proof.Machine

@[simp] theorem bitsMsb_length (n v : Nat) : (bitsMsb n v).length = n := by
  induction n with
  | zero => rfl
  | succ n ih => simp [bitsMsb, ih]

theorem foldl_bits (l : List Bool) : ∀ a, l.foldl (fun a b => 2 * a + bnat b) a = a * 2 ^ l.length + bitsNat l := by
  induction l with
  | nil => simp [bitsNat]
  | cons b l ih =>
    intro a
    have e : bitsNat (b :: l) = bnat b * 2 ^ l.length + bitsNat l := by
      show List.foldl _ (2 * 0 + bnat b) l = _
      rw [ih]; simp
    rw [List.foldl_cons, ih, e, List.length_cons, Nat.pow_succ]
    ring

theorem bitsNat_cons (b : Bool) (l : List Bool) : bitsNat (b :: l) = bnat b * 2 ^ l.length + bitsNat l := by
  show List.foldl _ (2 * 0 + bnat b) l = _
  rw [foldl_bits]; simp

@[simp] theorem bitsNat_bitsMsb (n v : Nat) : bitsNat (bitsMsb n v) = v % 2 ^ n := by
  induction n with
  | zero => simp [bitsMsb, bitsNat, Nat.mod_one]
  | succ n ih =>
    rw [bitsMsb, bitsNat_cons, bitsMsb_length, ih, Nat.pow_succ, Nat.mod_mul, Nat.testBit_eq_decide_div_mod_eq]
    have : v / 2 ^ n % 2 = 0 ∨ v / 2 ^ n % 2 = 1 := by omega
    rcases this with e | e <;> simp [bnat, e]; omega

@[simp] theorem ofNat_bitsMsb {n : Nat} (v : BitVec n) : BitVec.ofNat n (bitsNat (bitsMsb n v.toNat)) = v := by
  rw [bitsNat_bitsMsb, Nat.mod_eq_of_lt v.isLt, BitVec.ofNat_toNat, BitVec.setWidth_eq]

theorem bitsAt_append (a b c : List Bool) (off n : Nat) (ha : a.length = off) (hb : b.length = n) :
    bitsAt (a ++ (b ++ c)) off n = bitsNat b := by
  subst ha hb
  simp [bitsAt]

theorem bitsAt_words (ws : List Word) : ∀ (a c : List Bool) (i : Nat) (w : Word), ws[i]? = some w →
    bitsAt (a ++ (ws.flatMap (fun w => bitsMsb 64 w.toNat) ++ c)) (a.length + 64 * i) 64 = w.toNat := by
  induction ws with
  | nil => intro a c i w h; simp at h
  | cons v ws ih =>
    intro a c i w h
    rw [List.flatMap_cons, List.append_assoc]
    cases i with
    | zero =>
      simp only [List.getElem?_cons_zero, Option.some.injEq] at h
      subst h
      rw [bitsAt_append _ _ _ _ _ (by simp) (by simp), bitsNat_bitsMsb, Nat.mod_eq_of_lt v.isLt]
    | succ i =>
      have := ih (a ++ bitsMsb 64 v.toNat) c i w (by simpa using h)
      rw [List.append_assoc, List.length_append, bitsMsb_length] at this
      rw [← this]
      congr 1
      omega

theorem flatMap_words_length (ws : List Word) : (ws.flatMap (fun w => bitsMsb 64 w.toNat)).length = 64 * ws.length := by
  induction ws with
  | nil => rfl
  | cons w ws ih => simp [ih]; omega

@[simp] theorem frameBits_length (seq : BitVec 10) (ty : Nat) (ws : List Word) (h : ws.length = 32) :
    (frameBits seq ty ws).length = 2112 := by
  simp [frameBits, frameBody, h, -List.length_flatMap, flatMap_words_length]

/-- The bits of a frame are the frame that they were made of, with its length and without a stuff error. -/
theorem frameOf_frameBits (seq : BitVec 10) (flag : Bool) (kind : Nat) (ws : List Word) (hk : kind < 32) (hw : ws.length = 32) :
    frameOf (frameBits seq (frameType flag kind) ws) 0 = ⟨frameMarker, seq, flag, BitVec.ofNat 5 kind, ws,
      frameCrc seq (frameType flag kind) ws, false, 2112⟩ := by
  have hl := frameBits_length seq (frameType flag kind) ws hw
  unfold frameOf
  rw [hl]
  simp only [Nat.sub_self, List.replicate_zero, List.drop_zero, List.nil_append]
  have e : frameBits seq (frameType flag kind) ws = bitsMsb 16 frameMarker.toNat ++ (bitsMsb 10 seq.toNat ++
      ([flag] ++ (bitsMsb 5 (frameType flag kind) ++ (ws.flatMap (fun w => bitsMsb 64 w.toNat) ++
        (bitsMsb 32 (frameCrc seq (frameType flag kind) ws).toNat ++ []))))) := by
    have : bitsMsb 6 (frameType flag kind) = [flag] ++ bitsMsb 5 (frameType flag kind) := by
      have : (frameType flag kind).testBit 5 = flag := by
        unfold frameType bnat
        cases flag
        · simpa using Nat.testBit_lt_two_pow (i := 5) hk
        · rw [if_pos rfl, Nat.one_mul, show (32 : Nat) + kind = 2 ^ 5 * 1 + kind from rfl, Nat.testBit_two_pow_mul_add _ hk]
          rfl
      rw [bitsMsb, this]; rfl
    simp [frameBits, frameBody, this]
  have kindOk : frameType flag kind % 2 ^ 5 = kind := by unfold frameType bnat; split <;> omega
  rw [e]
  refine Frame.mk.injEq .. |>.mpr ⟨?_, ?_, ?_, ?_, ?_, ?_, rfl, rfl⟩
  · rw [← List.nil_append (bitsMsb 16 _ ++ _), bitsAt_append [] _ _ 0 16 rfl (by simp), ofNat_bitsMsb]
  · rw [bitsAt_append _ _ _ 16 10 (by simp) (by simp), ofNat_bitsMsb]
  · rw [← List.append_assoc, bitsAt_append _ _ _ 26 1 (by simp) (by simp)]
    cases flag <;> simp [bitsNat, bnat]
  · rw [← List.append_assoc, ← List.append_assoc, bitsAt_append _ _ _ 27 5 (by simp) (by simp), bitsNat_bitsMsb, kindOk]
  · apply List.ext_getElem? 
    intro i
    rw [List.getElem?_map]
    by_cases hi : i < 32
    · have hw' : ws[i]? = some ws[i] := List.getElem?_eq_getElem (by omega)
      rw [List.getElem?_range hi, hw', ← List.append_assoc, ← List.append_assoc, ← List.append_assoc]
      have := bitsAt_words ws (((bitsMsb 16 frameMarker.toNat ++ bitsMsb 10 seq.toNat) ++ [flag]) ++ bitsMsb 5 (frameType flag kind))
        (bitsMsb 32 (frameCrc seq (frameType flag kind) ws).toNat ++ []) i _ hw'
      rw [show ((((bitsMsb 16 frameMarker.toNat ++ bitsMsb 10 seq.toNat) ++ [flag]) ++ bitsMsb 5 (frameType flag kind)).length) = 32
        by simp] at this
      simp only [Option.map_some, this]
      simp
    · rw [List.getElem?_eq_none (by simpa using hi), List.getElem?_eq_none (by omega)]; rfl
  · rw [← List.append_assoc, ← List.append_assoc, ← List.append_assoc, ← List.append_assoc,
      bitsAt_append _ _ _ 2080 32 (by simp [-List.length_flatMap, flatMap_words_length, hw]) (by simp), ofNat_bitsMsb]

/-- Such a frame is good and of its kind (R88). -/
theorem frameBits_good (seq : BitVec 10) (flag : Bool) (kind : Nat) (ws : List Word) (hk : kind < 32) (hw : ws.length = 32) :
    frameGood (frameOf (frameBits seq (frameType flag kind) ws) 0) kind = true := by
  rw [frameOf_frameBits seq flag kind ws hk hw]
  simp [frameGood, frameSound, frameMarked, Nat.mod_eq_of_lt hk]

theorem scramble_scramble (s : BitVec 58) (b : Bool) : scramble s (scramble s b) = b := by
  unfold scramble; cases b <;> cases s.getLsbD 38 <;> cases s.getLsbD 57 <;> rfl

/-- A receiver can be given any bits without a stuff error (R75). -/
theorem LineRx.receive_any (d : List Bool) : ∀ r : LineRx, r.run ≤ 11 → ∃ wire, (r.receive wire).2 = (d, 0) := by
  induction d with
  | nil => exact fun r _ => ⟨[], rfl⟩
  | cons b d ih =>
    have one : ∀ r : LineRx, r.run ≤ 10 → ∃ wire, (r.receive wire).2 = (b :: d, 0) := by
      intro r h
      obtain ⟨w, hw⟩ := ih ⟨shiftIn r.s (scramble r.s b), scramble r.s b, if scramble r.s b = r.last then r.run + 1 else 1⟩
        (by dsimp only; split <;> omega)
      refine ⟨scramble r.s b :: w, ?_⟩
      have a : r.step (scramble r.s b) = (⟨shiftIn r.s (scramble r.s b), scramble r.s b,
          if scramble r.s b = r.last then r.run + 1 else 1⟩, some b, false) := by
        unfold LineRx.step
        rw [if_neg (by omega), if_neg (by omega), scramble_scramble]
      rw [LineRx.receive, a]
      simp [hw, bnat]
    intro r h
    by_cases e : r.run = 11
    · obtain ⟨w, hw⟩ := one ⟨r.s, !r.last, 1⟩ (by simp)
      refine ⟨(!r.last) :: w, ?_⟩
      have a : r.step (!r.last) = (⟨r.s, !r.last, 1⟩, none, false) := by
        unfold LineRx.step
        rw [if_neg (by omega), if_pos e, if_neg (by simp)]
      rw [LineRx.receive, a]
      simp [hw, bnat]
    · exact one r (by omega)

end Sys2Proof.Machine
end

