-- ==== Sys2Proof/Laws/Memory.lean ====
section
/-! SUPPORT. The memories of the device keep their canonical form: each operation that writes one, and the state after reset. -/

namespace Sys2Proof.Machine

theorem reset_memory_wf : Memory.wf State.reset :=
  ⟨⟨Tab.wf_nil _, Tab.wf_nil _, Tab.wf_nil _⟩, by simp [State.reset]⟩

theorem empty_core_memory_wf : Core.empty.memoryWf := ⟨Tab.wf_nil _, Tab.wf_nil _, Tab.wf_nil _⟩

/-- An entry put into a table of cores keeps the form of all. -/
theorem put_core_memory_wf (t : Tab Core) (g : Nat) (c : Core) (h : ∀ e ∈ t, e.2.memoryWf) (hc : c.memoryWf) :
    ∀ e ∈ Tab.put t g c, e.2.memoryWf := by
  intro e he
  rcases Tab.mem_put t g c e he with rfl | he
  · exact hc
  · exact h e he

/-! ### Feature processors -/

theorem Core.writeX_memoryWf (c : Core) (a : BitVec 16) (v : BitVec 24) (h : c.memoryWf) : (c.writeX a v).1.memoryWf := by
  unfold Core.writeX
  dsimp only
  split
  · exact h
  · exact ⟨h.1, Tab.wf_set _ _ _ _ h.2.1, h.2.2⟩

theorem Core.writeY_memoryWf (c : Core) (a : BitVec 16) (v : BitVec 24) (h : c.memoryWf) : (c.writeY a v).1.memoryWf := by
  unfold Core.writeY
  dsimp only
  split
  · exact ⟨h.1, h.2.1, Tab.wf_set _ _ _ _ h.2.2⟩
  · exact h

theorem bankTable_wf (b : List Byte) (t : Tab (BitVec 24)) (h : Tab.wf 0#24 t) : Tab.wf 0#24 (bankTable b t) := by
  unfold bankTable
  generalize List.range 8 = l
  induction l generalizing t with
  | nil => exact h
  | cons i l ih => exact ih _ (Tab.wf_setAll _ _ _ _ h)

theorem Core.initBanks_memoryWf (c : Core) (b : List Byte) (h : c.memoryWf) : (c.initBanks b).memoryWf :=
  ⟨h.1, h.2.1, bankTable_wf b _ (Tab.wf_filter _ _ _ h.2.2)⟩

theorem Core.load_memoryWf (c : Core) (slot : Nat) (b : List Byte) (h : c.memoryWf) : (c.load slot b).memoryWf :=
  ⟨Tab.wf_setAll _ _ _ _ (Tab.wf_nil _), Tab.wf_filter _ _ _ h.2.1, Tab.wf_setAll _ _ _ _ (bankTable_wf b _ (Tab.wf_nil _))⟩

/-! ### The log and its side logs -/

theorem putLog_wf (w : Nat) (vs : List Word) (t : Tab Word) (i : Nat) (h : Tab.wf 0#64 t) : Tab.wf 0#64 (putLog w t i vs) := by
  induction vs generalizing t i with
  | nil => exact h
  | cons v vs ih => exact ih _ _ (Tab.wf_set _ _ _ _ h)

theorem History.lossWrite_memoryWf (x : History) (n : Nat) (e : BitVec 128) (h : x.memoryWf) : (x.lossWrite n e).memoryWf :=
  ⟨h.1, h.2.1, Tab.wf_set _ _ _ _ h.2.2⟩

theorem History.kept_memoryWf (x : History) (h : x.memoryWf) : x.kept.memoryWf := h

theorem Core.kept_memoryWf (c : Core) (h : c.memoryWf) : c.kept.memoryWf := h

end Sys2Proof.Machine
end

