-- ==== Sys2Proof/Tests/Slice0.lean ====
section
/-! SUPPORT. The author's own tests: ill-formed commands that the checks refuse, worked examples of the manual, and for every
statement with hypotheses a concrete state and operands that meet them. -/

set_option Elab.async false

namespace Sys2Proof.Tests

open Sys2Proof Sys2Proof.Machine

/-! ### Small states -/

/-- A configuration whose three sets hold the values of a table. -/
def cfgOf (l : Tab Nat) : Cfg := { Cfg.empty with past := [], active := l, epoch := l, staging := l }

/-- A unit in RUN at the beginning of slice 4,096, with the configuration of a table. -/
def running (l : Tab Nat) : State :=
  { State.reset with
    sys := { State.reset.sys with dev := .run }
    cfg := cfgOf l
    tb := { Timebase.empty with c := 0x100000000#64 } }

/-- The same unit as the deciding unit of a pair, MAINMAST, its partner heard. -/
def paired (l : Tab Nat) : State :=
  let s := running l
  { s with
    sys := { s.sys with role := .mainmast }
    cfg := { s.cfg with imm := [(cTwinMode.key, 1)] }
    twin := { s.twin with deciding := true, partnerUp := true, highest := 5#32 } }

/-- The same state with another device state. -/
def inDev (d : DevState) (s : State) : State := { s with sys := { s.sys with dev := d } }

/-- The same state with another role. -/
def inRole (r : Role) (s : State) : State := { s with sys := { s.sys with role := r } }

/-- The wire bits of a frame of a sequence and kind, as a transmitter sends it first. -/
def wireOf (seq : BitVec 10) (kind : Nat) (words : List Word) : List Bool :=
  (Port.empty.tx.send (frameBits seq (frameType false kind) words)).2

/-- Thirty-two words of zeros. -/
def zeros : List Word := List.replicate 32 0#64

/-- A unit in RUN whose port 9 is in a link state. -/
def portIn (st : LinkState) (x : Port) : State := { running [] with ports := [(9, { x with st := st })] }

/-! ### Well-formedness: each check refuses an ill-formed command -/

theorem test_sub_tick_refused : (Instr.delayReq 0 0 0#16 ⟨8192, 0⟩).wf = false ∧ (Instr.delayReq 0 0 0#16 ⟨8128, 9⟩).wf = true ∧
    (Instr.uplinkFill 0 (.port 0) 8192 []).wf = false ∧ (Instr.signalLoss 0 (.port 0) 8192).wf = false := by decide

/-- Captures lie on a grid of 64 fu (R53). -/
theorem test_capture_grid_refused : (Instr.delayReq 0 0 0#16 ⟨8127, 0⟩).wf = false ∧
    (Instr.pdelayReqSend 0 0 0#16 ⟨63, 0⟩).wf = false := by decide

theorem test_short_frame_refused : (Instr.sync 0 0 ⟨0, 0⟩ (List.replicate 13 0#8)).wf = false ∧
    (Instr.announce 0 0 (List.replicate 13 0#8)).wf = false ∧ (Instr.arpRequest 0 0 []).wf = false ∧
    (Instr.pdelayReq 0 0 ⟨0, 0⟩ ⟨1, 0⟩ (List.replicate 60 0#8)).wf = false := by decide

theorem test_long_wire_refused : (Instr.uplinkTrain 0 (.port 0) 0 (List.replicate 200000001 true)).wf = false := by
  show (true && decide ((List.replicate 200000001 true).length ≤ 200000000)) = false
  rw [List.length_replicate]
  decide

theorem test_echo_bit_refused : (Instr.uplinkData 0 0 0 [] [⟨0, 32, 0#7⟩]).wf = false := by decide

theorem test_can_data_refused :
    (Instr.lcpCanFrame 0 .a ⟨true, false, false, 0#29, List.replicate 9 0#8⟩).wf = false ∧
    (Instr.lcpCanFrame 0 .a ⟨false, true, true, 2048#29, []⟩).wf = false := by decide

theorem test_mailbox_slot_refused : (Instr.reqTail 0 0#32 [List.replicate 4097 0#8]).wf = false := by
  show (decide ((List.replicate 4097 (0#8 : Byte)).length ≤ 4096) && true) = false
  rw [List.length_replicate]
  decide

theorem test_quality_level_refused : (Instr.esmc 0 0 16).wf = false := by decide

theorem test_alert_length_refused : (Instr.alertDatagram 0 0 ⟨0, 0⟩ (List.replicate 1519 0#8)).wf = false := by
  show (true && decide (14 ≤ (List.replicate 1519 (0#8 : Byte)).length ∧ (List.replicate 1519 (0#8 : Byte)).length ≤ 1518)) = false
  rw [List.length_replicate]
  decide

theorem test_pcie_width_refused : (Instr.pcieLinkUp 0 5 16 true true false 128).wf = false ∧
    (Instr.pcieLinkUp 0 4 3 true true false 128).wf = false ∧ (Instr.pcieLinkUp 0 4 16 true true false 100).wf = false := by decide

theorem test_descriptor_length_refused : (Instr.descriptorReadDone 0 0 (some (List.replicate 15 0#8))).wf = false := by decide

theorem test_lease_frame_refused : (Instr.grant 0 ⟨true, true, true, 0#29, List.replicate 65 0#8⟩ true).wf = false ∧
    (Instr.assignMizzen 0 ⟨true, false, false, 0#29, List.replicate 9 0#8⟩).wf = false := by decide

theorem test_access_size_refused : (Instr.bar0ShadowWrite 0 0 3 0#64).wf = false ∧ (Instr.badAccess 0 6 true 0 4).wf = false ∧
    (Instr.queueTableWrite 0 0 0 16 0#64).wf = false := by decide

/-! ### Worked examples of the manual -/

/-- The four words that 08_fp_instructions.md writes out bit by bit. -/
theorem test_feature_words_decode :
    fpDecode 4 0x865800250800#48 = some (.fmac 4 ⟨0#2, 5#3, 4#3, 0#3, 0#3, ⟨true, false, 5#4, 0#3, 1#2⟩, ⟨false, false, 0#4, 0#3, 0#2⟩⟩) ∧
    fpDecode 4 0x2893C0000000#48 = some (.maxs 4 1#2 ⟨1#3, 1#3⟩ 7#3) ∧
    fpDecode 4 0x380000080002#48 = some (.loop 4 32#16 2#14) ∧ fpDecode 4 0x42A800000000#48 = some (.emit 4 2#3 5#3) := by
  decide +kernel

/-- The word 0 and a reserved opcode are illegal (R221). -/
theorem test_illegal_words : fpDecode 4 0#48 = none ∧ fpDecode 4 0x7E0000000000#48 = none := by decide +kernel

/-- The worked correction of 04_port_timing.md: provisional time, corrected hit and log hit word. -/
theorem test_worked_correction :
    extend 0x0000012345_7A49AB#64 (153600 * 16) (1714985 * 8192 + 6833) = 0x00000123456792B1#64 ∧
    (Hit.word ⟨0x00000123456789AB#64, 37, 1205, 0#4, 0x2C7#20, 0⟩) = 0x789AB254B50002C7#64 := by decide +kernel

/-- The feature hit of 07_fp_architecture.md. -/
theorem test_feature_hit_word : Hit.word ⟨0x0000012345679150#64, 37, 1205, 4#4, 0x1A2C#20, 0⟩ = 0x79150254B5401A2C#64 := by
  decide +kernel

/-- The comparison across the wrap of 00_scope.md. -/
theorem test_wrap_comparison : twDiff 0x400#64 0xFFFFFFFFFFFFFC00#64 = 2048 ∧ before 0xFFFFFFFFFFFFFC00#64 0x400#64 = true ∧
    sliceOf 0x0000012345_6789AB#64 = 1193046 := by decide +kernel

/-- The wire bits of 03_port_links.md: a stuff bit removed after eleven ones; one more 1 is a stuff error. -/
theorem test_stuff_bit :
    ((LineRx.receive ⟨0#58, false, 1⟩ (List.replicate 11 true ++ [false, true])).2.1).length = 12 ∧
    (LineRx.receive ⟨0#58, false, 1⟩ (List.replicate 11 true ++ [false, true])).2.2 = 0 ∧
    (LineRx.receive ⟨0#58, false, 1⟩ (List.replicate 12 true)).2.2 = 1 := by decide +kernel

/-! ### Witnesses: supplies, resets, boot, supervision -/

/-- A unit in use: a wrapped journal, counters, a port in service. -/
def used : State :=
  { paired [] with
    stat := [(kReportsLost 1, 4), (kHbmDegraded, 1), (key 0x5000 5, 3)]
    ctl := { Control.empty with jCount := 7#32, jNext := 1023, seq := 0xFFFFFFFF#32 }
    ports := [(3, { Port.empty with st := .active })] }

theorem witness_StepRunsFrontCommand :
    ({ used with pending := [.fold 0, .status 0] } : State).pending = .fold 0 :: [.status 0] ∧ used.pending = [] := ⟨rfl, rfl⟩

theorem witness_ClockStaysSound : used.tb.Sound ∧ Completes (step used) := ⟨by unfold Timebase.Sound; decide +kernel, _, rfl⟩

theorem witness_RailsAndPowerOnReset : let s := inDev .powered State.reset
    s.sys.dev = .powered ∧ s.sys.rails = 0x1FF#9 ∧ (0x00#8).toNat % 128 = 0 ∧ (0x05#8).toNat % 128 ≠ 0 ∧
    ({ s with sys := { s.sys with rails := 0x1FB#9 } } : State).sys.rails ≠ 0x1FF#9 := by decide +kernel

theorem witness_DeviceResetKeepsTheTimebase : used.sys.dev ≠ .powered ∧ used.sys.jtagHeld = false ∧
    (0x80#8).toNat % 128 = 0 ∧ (0x85#8).toNat % 128 ≠ 0 ∧ (inDev .powered used).sys.dev = .powered ∧
    ({ used with sys := { used.sys with jtagHeld := true } } : State).sys.jtagHeld = true := by decide +kernel

theorem witness_TapInstructionsAndHeldReset : used.sys.jtagHeld = false ∧ used.sys.dev ≠ .powered ∧
    ({ used with sys := { used.sys with jtagHeld := true } } : State).sys.dev ≠ .powered ∧
    (inDev .powered used).sys.dev = .powered := by decide +kernel

theorem witness_BootEndsInStandstill : State.reset.sys.dev = .boot ∧ State.reset.sys.bootHold = false ∧
    State.reset.sys.jtagHeld = false ∧ State.reset.sys.hbmUntrained = false ∧
    ((some 5#32).isSome = true ∨ (none : Option (BitVec 32)).isSome = true) := by decide +kernel

theorem witness_FaultStopsTheDevice : used.sys.dev ∈ [DevState.boot, .standstill, .run, .fenced] ∧
    115 * 16 < (BitVec.ofNat 16 (115 * 16 + 1)).toInt ∧ (BitVec.ofNat 16 (115 * 16)).toInt ≤ 115 * 16 ∧
    (inDev .powered used).sys.dev = .powered ∧ (inDev .fault used).sys.dev = .fault := by decide +kernel

theorem witness_DieAndStacksAreWatched : let off : State := { used with sys := { used.sys with warnArmed := false, ir := 0x11#8 } }
    used.sys.dev ≠ .powered ∧ used.sys.dev ≠ .fault ∧ used.sys.warnArmed = true ∧ 100 * 16 < (BitVec.ofNat 16 1601).toInt ∧
    (BitVec.ofNat 16 1600).toInt ≤ 100 * 16 ∧ off.sys.warnArmed = false ∧ (BitVec.ofNat 16 1519).toInt < 95 * 16 ∧
    used.sys.ir ≠ 0x10#8 ∧ used.sys.ir ≠ 0x11#8 ∧ off.sys.ir = 0x10#8 + BitVec.ofNat 8 (1 : Fin 2).val := by decide +kernel

theorem witness_UnsupervisedInputsAreNoted :
    let noted : State := { used with sys := { used.sys with refclkNoted := true } }
    let drives : State := { running [((cExcMode 2).key, 1), ((cExcMode 5).key, 2)] with
      mon := { Monitor.empty with power := true, excStatus := 0x04#8 } }
    (used.sys.refclkNoted = false ∧ (used.elapse 3).synceQualified = false ∧ (used.elapse 3).holdQualified = false) ∧
    noted.sys.refclkNoted = true ∧ drives.mon.power = true ∧ drives.sys.dev ≠ .fault := by decide +kernel

theorem witness_DieAndStacksAreWatched_hbm :
    let one : State := { paired [] with sys := { (paired []).sys with hbmFailed := 1#2, degradeDue := some 4096 } }
    (paired []).sys.dev ∈ [DevState.standstill, .run, .fenced] ∧ (paired []).sys.hbmFailed = 0#2 ∧
    one.sys.hbmFailed = BitVec.ofNat 2 (2 ^ (1 - (1 : Fin 2).val)) ∧ one.sys.degradeDue = some 4096 ∧
    sliceLe 4096 (one.elapse 3).slice = true ∧ sliceLe 4097 (one.elapse 3).slice = false ∧ one.count kHbmDegraded = 0 := by
  decide +kernel

/-! ### Witnesses: sessions, transports, the shadow -/

/-- A session bound to a transport that expects request 5. -/
def aSession (t : Transport) (node mask : Nat) : Session := ⟨t, node, 77#32, 5#16, false, 0, mask, 3#16, [], [], none, 0#64⟩

/-- A unit in RUN with session 2 on the mailbox and a link that is up. -/
def served : State :=
  let s := running []
  { s with
    ctl := { s.ctl with sessions := [(2, aSession .mailbox 0 15)], jNext := 1023, seq := 0xFFFFFFFF#32, respTail := 31, respHead := 30 }
    host := { s.host with gen := 4, busMaster := true, d0 := true } }

/-- A CAN FD frame of client node 130 for the device's node. -/
def clientFrame : CanFrame := ⟨true, true, true, BitVec.ofNat 29 (8 * 2 ^ 24 + 0x7F * 256 + 130), List.replicate 64 3#8⟩

theorem witness_RequestsArriveInOrder :
    let full : State := { served with ctl := { served.ctl with canB := List.replicate 32 ⟨.canB, 130, [], 0#64⟩ } }
    served.barOpen = true ∧ (15#32).toNat % 65536 < 16 ∧ 16 ≤ (16#32).toNat % 65536 ∧ served.serving = true ∧
    clientFrame.extended = true ∧ clientFrame.fd = true ∧ clientFrame.data.length = 64 ∧ clientFrame.brs = true ∧
    clientFrame.id.toNat / 2 ^ 24 = 8 ∧ clientFrame.id.toNat / 256 % 256 = served.ownNode ∧
    128 ≤ clientFrame.id.toNat % 256 ∧ clientFrame.id.toNat % 256 ≤ 253 ∧ (served.ctl.buffer .b).length < 32 ∧
    32 ≤ (full.ctl.buffer .b).length ∧ ({ clientFrame with data := [] } : CanFrame).data.length ≠ 64 := by decide +kernel

theorem witness_RequestsArriveInOrder_responses :
    served.barOpen = true ∧ (31#32).toNat % 65536 = served.ctl.respTail ∧ (31#32).toNat % 65536 < 32 ∧
    (∀ e ∈ served.ctl.sessions, e.2.reports = []) ∧ 32 ≤ (32#32).toNat % 65536 ∧ (3#32).toNat % 65536 ≠ served.ctl.respTail ∧
    served.canSignal = true ∧
    (Tab.get msixReset ({ served with host := { served.host with msix := [(0, 0#128)] } } : State).host.msix
      (served.imm cMailboxVector)).getLsbD 96 = false := by decide +kernel

/-- The READ of LossLogLimit that session 2 sends. -/
def aRead : List Byte := lcpMessage 0 3 2 5#16 0 0x3400 2 0 []

/-- The served unit with that request in slot 15. -/
def asked : State := { served with ctl := { served.ctl with slots := [(15, aRead)], reqHead := 15, reqTail := 0, posted := [0x0FFFFFFFF#64] } }

/-- Object 0x3400.2. -/
def lossLimitRow : ObjRow := (objAt 0x3400 2).getD ⟨0, 0, 0, 0, .u8, .rw, false, 0, [], .none, .staged⟩

theorem witness_MailboxReadIsAnswered :
    asked.serving = true ∧ asked.ctl.canA = [] ∧ asked.ctl.canB = [] ∧ (asked.elapse 3).mailboxRequests = [⟨.mailbox, 0, aRead, 0x0FFFFFFFF#64⟩] ∧
    before 0x0FFFFFFFF#64 (sliceStart (asked.elapse 3).slice) = true ∧ zeroBytes .mailbox (headerOf aRead) aRead = true ∧
    0 < asked.freeSlots ∧ asked.session 2 = some (aSession .mailbox 0 15) ∧ (∀ e ∈ asked.ctl.sessions, e.2.reports = []) ∧
    (headerOf aRead).kind = 0 ∧ (headerOf aRead).len ≤ 4080 ∧ (headerOf aRead).service = 3 ∧ (headerOf aRead).session = 2 ∧
    (headerOf aRead).number = (aSession .mailbox 0 15).expected ∧
    objAt (headerOf aRead).index (headerOf aRead).sub = some lossLimitRow ∧ lossLimitRow.acc ≠ .wo ∧ lossLimitRow.ty ≠ .domain ∧
    lossLimitRow.ty ≠ .string ∧ (headerOf aRead).index ≠ 0x1010 ∧ (headerOf aRead).index ≠ 0x5000 := by decide +kernel

/-- Object 0x2400.0, SealDelay. -/
def sealRow : ObjRow := (objAt 0x2400 0).getD ⟨0, 0, 0, 0, .u8, .rw, false, 0, [], .none, .staged⟩

/-- A WRITE of SealDelay with `n` data bytes. -/
def aWrite (n v : Nat) : Header := ⟨0, 4, 2, 5#16, 0x2400, 0, n, leBytes n v⟩

theorem witness_StagedWritesCheckInOrder :
    let x := aSession .mailbox 0 15
    x.collect = none ∧ (aWrite 1 5).service = 4 ∧ objAt 0x2400 0 = some sealRow ∧ sealRow.eff = .staged ∧ sealRow.ty ≠ .domain ∧
    (aWrite 1 5).index ∉ [0x1011, 0x1030, 0x1031, 0x1041, 0x1050] ∧ sealRow.acc = .rw ∧ sealRow.expert = false ∧
    (aWrite 1 5).data.length = sealRow.ty.bytes ∧ (aWrite 3 5).data.length ≠ sealRow.ty.bytes ∧
    served.sys.dev ≠ .fault ∧ served.sys.role ≠ .mizzen ∧ served.cfg.owner = 255 ∧
    ({ served with cfg := { served.cfg with owner := 3 } } : State).cfg.owner ≠ 2 ∧
    ¬ (0x2110 ≤ (aWrite 1 5).index ∧ (aWrite 1 5).index < 0x2120) := by decide +kernel

theorem witness_StagedWritesCheckInOrder_values :
    (served.rowNow sealRow 0x2400 0).check 128 = .stored 128 ∧ (served.rowNow sealRow 0x2400 0).check 129 = .clamped 128 ∧
    lossLimitRow.acc = .rw ∧ lossLimitRow.expert = true ∧ (aSession .mailbox 0 15).expert = false ∧
    (objAt 0x2100 0).map (·.acc) = some .ro ∧ (objAt 0x2105 1).map (fun r => (r.acc, r.eff, r.ty)) = some (.rw, .staged, .bool) ∧
    (∀ y, served.special 2 0x100000000#64 0x2400 0 y = none) := by
  refine ⟨by decide +kernel, by decide +kernel, by decide +kernel, by decide +kernel, by decide +kernel, by decide +kernel,
    by decide +kernel, fun y => ?_⟩
  simp [State.special]

theorem witness_CommitChecksInOrder :
    let tr := 0x100000000#64
    let c := roundUpSlice (BitVec.ofNat 64 0x140000000)
    let owned : State := { served with cfg := { served.cfg with owner := 5 } }
    let busy : State := { served with cfg := { served.cfg with pending := some (9000, []) } }
    (inDev .fault served).sys.dev = .fault ∧ served.sys.dev ≠ .fault ∧ (inRole .fenced served).sys.role ≠ .mainmast ∧
    (inRole .fenced served).sys.role ≠ .solo ∧ (served.sys.role = .mainmast ∨ served.sys.role = .solo) ∧ owned.cfg.owner ≠ 255 ∧
    owned.cfg.owner ≠ 2 ∧ (served.cfg.owner = 255 ∨ served.cfg.owner = 2) ∧ served.twin.joinAt = none ∧
    busy.cfg.pending.isSome = true ∧ served.cfg.pending = none ∧ 1024 * 2 ^ 20 ≤ leadOf c tr ∧ leadOf c tr ≤ 2 ^ 24 * 2 ^ 20 ∧
    leadOf (roundUpSlice 0x13FF00000#64) tr < 1024 * 2 ^ 20 ∧
    2 ^ 24 * 2 ^ 20 < leadOf (roundUpSlice 0x100100000001#64) tr := by decide +kernel

/-- A copy of the configuration in the store. -/
def aCopy : StoreCopy := ⟨7#32, 12#64, [(cLossLogLimit.key, 5)], [(cTwinMode.key, 1)], [(2, [1, 2, 3])]⟩

theorem witness_SessionsStoresAndImagesEnd :
    let late : State := { served with ctl := { served.ctl with sessions := [(2, { aSession .mailbox 0 15 with lastC := 0x100000000#64 })] } }
    let busy : State := { served with cfg := { served.cfg with storing := some aCopy, programming := some 5#32 } }
    let idle := served
    late.session (2 : Fin 8).val = some { aSession .mailbox 0 15 with lastC := 0x100000000#64 } ∧
    1024000 * (1000000 * late.imm cSessionTimeout) ≤ ((late.elapse 10000000000).tb.c - 0x100000000#64).toNat ∧
    ((late.elapse 3).tb.c - 0x100000000#64).toNat < 1024000 * (1000000 * late.imm cSessionTimeout) ∧
    busy.cfg.storing = some aCopy ∧ busy.cfg.programming = some 5#32 ∧ busy.cfg.activeSlot = 0 ∧
    ({ busy with cfg := { busy.cfg with activeSlot := 1 } } : State).cfg.activeSlot ≠ 0 ∧ idle.cfg.storing = none ∧
    idle.cfg.programming = none := by decide +kernel

theorem witness_CommitsApplyAtTheirSlice :
    let table : Tab Nat := [(cRunControl.key, 1), (cFpBankReset.key, 5)]
    let s : State := { served with cfg := { served.cfg with pending := some (4096, table) } }
    s.cfg.pending = some (4096, table) ∧ s.sys.dev ∈ [DevState.standstill, .run, .fenced] ∧
    sliceLe 4096 (s.elapse 3).slice = true ∧ sliceLe 4097 (s.elapse 3).slice = false ∧
    Tab.get 0 table cRunControl.key = 1 ∧ (inDev .standstill s).sys.dev = .standstill ∧ (inRole .fenced s).sys.role = .fenced := by
  decide +kernel

theorem witness_ScrubbingRestoresTheEpoch :
    let k := cLossLogLimit.key
    let s : State := { served with cfg := { served.cfg with
      epoch := [(k, 5)], active := [(k, 6)], mismatch := [(k, 2)], pending := some (9000, [(k, 6)]) } }
    Tab.sorted s.cfg.active ∧ Tab.sorted s.cfg.epoch ∧ s.cfg.pending = some (9000, [(k, 6)]) ∧
    ({ s.cfg with active := s.cfg.epoch } : Cfg).active = s.cfg.epoch := by
  refine ⟨by simp [Tab.sorted], by simp [Tab.sorted], rfl, rfl⟩

/-! ### Witnesses: timebase, PTP, pulses -/

/-- A unit in STANDSTILL whose C has just crossed a fold. -/
def folding : State :=
  let s := running []
  { s with
    sys := { s.sys with dev := .standstill }
    tb := { s.tb with
      c := 0x3000000000#64, cref := 0x2000000000#64, b := 12345, f := 777, accepted := [100, -31, 4], integ := 999
      history := [1, 2, 3], servo := .acquiring, lockRun := 40, unlockRun := 7, refuseRun := 30 } }

/-- The same with another servo state and other samples. -/
def foldingAs (v : ServoState) (l : List Int) (refused : Nat) : State :=
  { folding with tb := { folding.tb with servo := v, accepted := l, refused := refused } }

theorem witness_FoldsKeepTimeContinuous :
    2 ^ 36 ≤ ((folding.elapse 0).tb.c - folding.tb.cref).toNat ∧ folding.tb.stepTarget = none ∧ folding.tb.autoStep = none ∧
    (({ folding with tb := { folding.tb with cref := 0x2100000000#64 } } : State).elapse 0).tb.c.toNat - 0x2100000000 < 2 ^ 36 := by
  decide +kernel

theorem witness_FoldsLoadTheServoRate : let lt : Int := folding.conf cServoLockThreshold
    folding.tb.accepted ≠ [] ∧ (foldingAs .acquiring [] 0).tb.accepted = [] ∧
    |roundEven folding.tb.accepted.sum (2 * folding.tb.accepted.length)| < lt ∧ 0 < folding.conf cServoRefuseLimit ∧
    folding.conf cServoLockCount ≤ folding.tb.lockRun + 1 ∧ (foldingAs .locked [10000000] 0).tb.servo = .locked ∧
    4 * lt < |roundEven ([10000000] : List Int).sum 2| ∧ 3 ≤ folding.tb.unlockRun ∧ 0 < (foldingAs .locked [] 3).tb.refused ∧
    folding.conf cServoRefuseLimit ≤ folding.tb.refuseRun + 1 ∧ (foldingAs .holdover [] 0).tb.servo = .holdover := by
  decide +kernel

theorem witness_StepsAndTheAnchor :
    let due : State := { folding with tb := { folding.tb with stepTarget := some 0x123456789#64 } }
    let far : State := { folding with tb := { folding.tb with b := 2 ^ 62 * 2 ^ 40, anchorValid := true, anchorNs := 999999999 } }
    2 ^ 36 ≤ ((due.elapse 0).tb.c - due.tb.cref).toNat ∧ due.tb.stepTarget = some 0x123456789#64 ∧ due.sys.dev = .standstill ∧
    far.tb.anchorValid = true ∧ 2 ^ 62 ≤ twDiff (far.elapse 0).now far.tb.anchorTw ∧ folding.tb.anchorValid = false := by
  decide +kernel

/-- A PTP instance in the middle of its exchanges. -/
def anEth : EthPort := { EthPort.empty with
  link := true, ql := some 2, master := some ⟨9#64, 0, 37#16, 1000⟩, announces := [7#64, 5#64], qual := true, exchanges := 5
  syncSeq := some 5#16, t1 := some 7, t2 := some 9#64, dreqSeq := some 6#16, t3 := some 12#64, pdSeq := some 9#16
  pd1 := some 4#64, pdReceipt := some ⟨1, 2⟩, pd4 := some 77#64, peerDelay := some 500, syncFu := 1000 }

/-- Both instances enabled on IEEE 802.3, the second with peer delay; the first one steers. -/
def timed : State :=
  let s := running [((cEthPtpEnable 0).key, 1), ((cEthPtpEnable 1).key, 1), ((cEthDelayMechanism 1).key, 2),
    ((cEthPdelayRespMode 1).key, 1), ((cEthIpv4Address 0).key, 0x0A000001), ((cEthTransport 0).key, 1), ((cEthTransport 1).key, 1)]
  { s with eth := Vector.replicate 2 anEth, tb := { s.tb with steering := some 0, servo := .locked } }

/-- The same without t1 and t4: a Delay_Req is under way and no Follow_Up has come. -/
def midway : State := { timed with eth := Vector.replicate 2 { anEth with t1 := none, t4 := none } }

/-- A PTP message of 64 bytes with a type, flags, sequence and logMessageInterval, its time 3 s. -/
def ptpMsg (type flags seq : Nat) (log : Byte) : List Byte :=
  beBytes 1 type ++ [0x12#8] ++ beBytes 2 64 ++ [0#8, 0#8] ++ beBytes 2 flags ++ List.replicate 22 0#8 ++ beBytes 2 seq ++
    [0#8, log] ++ beBytes 6 3 ++ List.replicate 24 0#8

/-- Its IEEE 802.3 frame. -/
def ptpFrame (m : List Byte) : List Byte := beBytes 6 0x011B19000000 ++ beBytes 6 7 ++ beBytes 2 0x88F7 ++ m

/-- The messages of each type reach the instance that asks for them; the rate test refuses a Sync above 128 per second. -/
theorem witness_ExchangeMessagesAreKept :
    timed.ptpMessage 0 [0] (ptpFrame (ptpMsg 0 0x0200 9 0#8)) = some (ptpMsg 0 0x0200 9 0#8) ∧
    ptpTwoStep (ptpMsg 0 0x0200 9 0#8) = true ∧ ptpTwoStep (ptpMsg 0 0 9 0#8) = false ∧ ptpRateOk (ptpMsg 0 0 9 0#8) = true ∧
    ptpRateOk (ptpMsg 0 0 9 0xF8#8) = false ∧ timed.p2p 0 = false ∧
    timed.ptpMessage 0 [8] (ptpFrame (ptpMsg 8 0 9 0#8)) = some (ptpMsg 8 0 9 0#8) ∧
    (timed.ethPort 0).syncSeq ≠ some (ptpSeq (ptpMsg 8 0 9 0#8)) ∧ (timed.ethPort 0).syncSeq = some (ptpSeq (ptpMsg 8 0 5 0#8)) ∧
    (midway.ethPort 0).t4 = none ∧ timed.ptpMessage 0 [9] (ptpFrame (ptpMsg 9 0 9 0#8)) = some (ptpMsg 9 0 9 0#8) ∧
    (timed.ethPort 0).dreqSeq ≠ some (ptpSeq (ptpMsg 9 0 9 0#8)) ∧ timed.ptpOn 0 = true ∧ (timed.ethPort 0).link = true ∧
    timed.ptpOn 1 = true ∧ timed.p2p 1 = true ∧
    ((midway.ethPort 0).syncSeq ≠ none ∧ (midway.ethPort 0).t1 = none ∧
      (midway.ethPort 0).syncFu ≤ ((midway.elapse 3).tb.c - (midway.ethPort 0).syncAt).toNat) ∧
    (EthPort.empty.syncSeq = none ∧ EthPort.empty.t3 = none) ∧ timed.ptpMessage 0 [0] (ptpFrame (ptpMsg 12 0 9 0#8)) = none ∧
    (State.reset.ethPort 0).link = false := by decide +kernel

theorem witness_ExchangeMessagesAreKept_peer :
    timed.ptpMessage 1 [3, 10] (ptpFrame (ptpMsg 3 0 9 0#8)) = some (ptpMsg 3 0 9 0#8) ∧
    timed.ptpMessage 1 [3, 10] (ptpFrame (ptpMsg 10 0 9 0#8)) = some (ptpMsg 10 0 9 0#8) ∧
    (timed.ethPort 1).pdSeq = some (ptpSeq (ptpMsg 3 0 9 0#8)) ∧ (timed.ethPort 1).pd1 = some 4#64 ∧
    ptpType (ptpMsg 3 0x0200 9 0#8) = 3 ∧ ptpTwoStep (ptpMsg 3 0x0200 9 0#8) = true ∧ ptpTwoStep (ptpMsg 3 0 9 0#8) = false ∧
    ptpType (ptpMsg 10 0 9 0#8) = 10 ∧ (timed.ethPort 1).pdReceipt = some ⟨1, 2⟩ ∧ (timed.ethPort 1).pd4 = some 77#64 ∧
    timed.ptpMessage 1 [2] (ptpFrame (ptpMsg 2 0 9 0#8)) = some (ptpMsg 2 0 9 0#8) ∧ ptpRateOk (ptpMsg 2 0 9 0#8) = true ∧
    timed.conf (cEthPdelayRespMode 1) = 1 ∧ timed.conf (cEthPdelayRespMode 0) ≠ 1 := by decide +kernel

theorem witness_CompletedExchangesGiveSamples :
    timed.ptpMessage 0 [9] (ptpFrame (ptpMsg 9 0 6 0#8)) = some (ptpMsg 9 0 6 0#8) ∧ ptpRateOk (ptpMsg 9 0 6 0#8) = true ∧
    timed.p2p 0 = false ∧ (timed.ethPort 0).dreqSeq = some (ptpSeq (ptpMsg 9 0 6 0#8)) ∧ (timed.ethPort 0).t1 = some 7 ∧
    (timed.ethPort 0).t2 = some 9#64 ∧ (timed.ethPort 0).t3 = some 12#64 ∧ timed.tb.steering = some 0 ∧
    (timed.ethPort 0).eligible = true ∧ timed.p2p 1 = true ∧
    timed.ptpMessage 1 [8] (ptpFrame (ptpMsg 8 0 5 0#8)) = some (ptpMsg 8 0 5 0#8) ∧
    (timed.ethPort 1).syncSeq = some (ptpSeq (ptpMsg 8 0 5 0#8)) ∧ (timed.ethPort 1).peerDelay = some 500 ∧
    timed.conf (cEthSpeed 0) ≠ 0 ∧ (running [((cEthSpeed 1).key, 0)]).conf (cEthSpeed 1) = 0 := by decide +kernel

/-- A Sync as a UDP datagram over IPv4 to 224.0.1.129, its header checksum right, is the message of a port with that transport. -/
theorem test_udp_sync_taken :
    let ip := beBytes 2 0x4500 ++ beBytes 2 92 ++ beBytes 2 0 ++ beBytes 2 0 ++ beBytes 2 0x0111 ++ beBytes 2 0xCE0E ++
      beBytes 4 0x0A000002 ++ beBytes 4 0xE0000181
    let udp := beBytes 2 319 ++ beBytes 2 319 ++ beBytes 2 72 ++ beBytes 2 0
    let frame := beBytes 6 0x01005E000181 ++ beBytes 6 7 ++ beBytes 2 0x0800 ++ ip ++ udp ++ ptpMsg 0 0 9 0#8
    (running [((cEthPtpEnable 0).key, 1)]).ptpMessage 0 [0] frame = some (ptpMsg 0 0 9 0#8) := by decide +kernel

/-- An ARP request for 10.0.0.1. -/
def arpFrame : List Byte := beBytes 6 0xFFFFFFFFFFFF ++ beBytes 6 7 ++ beBytes 2 0x0806 ++ beBytes 2 1 ++ beBytes 2 0x0800 ++
  [6#8, 4#8] ++ beBytes 2 1 ++ beBytes 6 7 ++ beBytes 4 0x0A000002 ++ beBytes 6 0 ++ beBytes 4 0x0A000001

theorem witness_MastersComeAndGo :
    let alone : State := { timed with eth := Vector.ofFn (fun i : Fin 2 => if i = 0 then anEth else EthPort.empty) }
    (timed.ethPort 0).link = true ∧ timed.ptpMessage 0 [11] (ptpFrame (ptpMsg 11 0 9 1#8)) = some (ptpMsg 11 0 9 1#8) ∧
    ptpRateOk (ptpMsg 11 0 9 1#8) = true ∧ timed.ptpMessage 0 [11] (ptpFrame (ptpMsg 0 0 9 0#8)) = none ∧
    timed.tb.steering = some (0 : Fin 2) ∧ (timed.ethPort 0).announces = [7#64, 5#64] ∧
    (∀ o : Fin 2, o ≠ 0 → (alone.ethPort o).eligible = false) ∧ (timed.ethPort 0).master = some ⟨9#64, 0, 37#16, 1000⟩ ∧
    timed.conf (cEthAnnounceTimeout 0) * 1000 ≤ ((timed.elapse 3).tb.c - 7#64).toNat ∧
    arpParse (ethParse arpFrame).body = some (beBytes 6 7 ++ beBytes 4 0x0A000002, timed.conf (cEthIpv4Address 0)) ∧
    timed.conf (cEthIpv4Address 0) ≠ 0 ∧ timed.ethTagged 0 arpFrame = true ∧ (ethParse arpFrame).kind = 0x0806 ∧
    timed.conf (cEthIpv4Address 1) = 0 := by decide +kernel

theorem witness_FirstQualifiedSourceIsUsed :
    5000000 * 1024000 ≤ ((timed.elapse 1000000000).tb.c - (timed.ethPort timed.synceSource).esmcAt).toNat ∧
    (0 : Fin 2) = timed.synceSource := by decide +kernel

/-- A schedule of three pulses on the pin. -/
def aSchedule (k : Nat) : Schedule := ⟨⟨2#8, 0x100000000#64, 5000#64, 100#32, 3#32, 1#8, 3#8, false⟩, k, none⟩

theorem witness_PulsesFireAndEnd :
    let armed : State := { running [] with pulse := [(3, { PulseGen.empty with state := .armed, current := some (aSchedule 2) })] }
    let ending : State := { running [] with pulse := [(3, { PulseGen.empty with ends := [⟨0xFFFFFFF0#64, true, false, false⟩] })] }
    (armed.gen 3).old = [] ∧ (armed.gen 3).current = some (aSchedule 2) ∧ (armed.gen 3).state = .armed ∧ (armed.gen 3).ends = [] ∧ (aSchedule 2).cut = none ∧
    pulseExists (aSchedule 2).fields 2 = true ∧ (armed.elapse 3).due (pulseTime (aSchedule 2).fields 2) = true ∧
    armed.sys.dev ≠ .fault ∧ (aSchedule 2).fields.routes &&& 0xE#8 = 0#8 ∧
    (ending.gen 3).ends = [⟨0xFFFFFFF0#64, true, false, false⟩] ∧ (ending.elapse 3).due 0xFFFFFFF0#64 = true ∧
    (ending.gen 3).current = none ∧ (ending.gen 3).old = [] := by decide +kernel

theorem witness_PulsesFireAndEnd_arms : let f : PulseFields := (aSchedule 0).fields
    f.mode ≠ 0#8 ∧ ({ f with mode := 0#8 } : PulseFields).mode = 0#8 ∧
    armOutcome f (f.start - 2047999#64) = .late ∧ armOutcome f (f.start - 2048000#64) = .accepted ∧
    armOutcome f (f.start - 0x4000000000000000#64) = .accepted ∧ armOutcome f (f.start - 0x4000000000000001#64) = .tooFar := by
  decide +kernel

/-! ### Witnesses: links -/

/-- A port in service with a delay, a channel count and a phase. -/
def aPort : Port := { Port.empty with
  txSeq := 7#10, capsSent := 3, channels := 20, start := some 0
  timing := { Timing.empty with da := some 160, lastCode := some 127#7, phi := 5, ds := .tracking } }

theorem witness_ReceiverRecoversLineCode : (⟨0x3FF#58, true, 10⟩ : LineTx).run ≤ 10 ∧ (⟨0x3FF#58, true, 11⟩ : LineRx).run = 11 ∧
    58 ≤ ((⟨0#58, true, 1⟩ : LineRx).receive ((List.range 60).map (fun i => i % 2 == 0))).2.1.length := by decide +kernel

theorem witness_DownlinkFramesByState :
    (portIn .active aPort).sys.dev ≠ .fault ∧ aPort.tx.run ≤ 10 ∧ ((portIn .disabled aPort).port 9).st = .disabled ∧
    ((portIn .lock aPort).port 9).realign = false ∧ ((portIn .train aPort).port 9).st = .train ∧
    ((portIn .exchange aPort).port 9).capOk = false ∧ ((portIn .active aPort).port 9).st = .active ∧
    ((portIn .active aPort).port 9).commands = [] ∧ aPort.own = [] := by decide +kernel

theorem witness_BringUpAdvancesOrFails : let s := portIn .train { aPort with fails := 7 }
    (s.lane (.port 9)).st = .train ∧ |(200 : Int)| ≤ 200 ∧ 200 < |(201 : Int)| ∧ ((portIn .detect aPort).lane (.port 9)).st = .detect ∧
    s.conf cTrainTimeout * 1024000 ≤ ((s.elapse 3000000).tb.c - (s.lane (.port 9)).since).toNat ∧
    ((portIn .idle aPort).lane (.port 9)).st = .idle ∧ ((portIn .idle aPort).lane (.port 9)).goodRun < 4 ∧
    (∃ p : PortId, (Lane.port 9) = .port p ∧ Instr.idleExitTimeout 3 9 = .idleExitTimeout 3 p) := by
  refine ⟨by decide +kernel, by decide, by decide, by decide +kernel, by decide +kernel, by decide +kernel, by decide +kernel, 9,
    rfl, rfl⟩

/-- The frame that a receiver delivers from wire bits. -/
def heard (rx : LineRx) (wire : List Bool) : Frame := frameOf (rx.receive wire).2.1 (rx.receive wire).2.2

/-- Every frame can be heard: some wire delivers it. -/
theorem heard_any (kind : Nat) (words : List Word) :
    ∃ wire, heard aPort.rx wire = frameOf (frameBits 5 (frameType false kind) words) 0 := by
  obtain ⟨wire, h⟩ := LineRx.receive_any (frameBits 5 (frameType false kind) words) aPort.rx (by decide)
  exact ⟨wire, by simp [heard, h]⟩

/-- For each kind some wire delivers a good frame of that kind with given words. -/
theorem heard_good (kind : Nat) (words : List Word) (hk : kind < 32) (hw : words.length = 32) :
    ∃ wire, frameGood (heard aPort.rx wire) kind = true ∧ (heard aPort.rx wire).words = words := by
  obtain ⟨wire, h⟩ := heard_any kind words
  refine ⟨wire, ?_, ?_⟩
  · rw [h, frameBits_good 5 false kind words hk hw]
  · rw [h, frameOf_frameBits 5 false kind words hk hw]

/-- Forty equal bits are a stuff error, and no bits at all a frame without marker. -/
theorem heard_bad : frameSound (heard aPort.rx (List.replicate 40 true)) = false ∧
    (heard aPort.rx (List.replicate 40 true)).stuffError = true ∧ frameSound (heard aPort.rx []) = false ∧
    (heard aPort.rx []).stuffError = false := by decide +kernel

theorem witness_BringUpAdvancesOrFails_align :
    let s := portIn .lock { aPort with goodRun := 3 }
    (s.lane (.port 9)).st = .lock ∧ (s.lane (.port 9)).realign = false ∧ (s.lane (.port 9)).rx = aPort.rx ∧
    (∃ wire, frameGood (heard aPort.rx wire) 2 = true) ∧ (∃ wire, frameGood (heard aPort.rx wire) 7 = true) ∧
    frameSound (heard aPort.rx []) = false ∧ (s.lane (.port 9)).goodRun = 3 ∧ ((portIn .lock aPort).lane (.port 9)).goodRun < 3 := by
  obtain ⟨a, ha, -⟩ := heard_good 2 zeros (by decide) rfl
  obtain ⟨b, hb, -⟩ := heard_good 7 zeros (by decide) rfl
  exact ⟨by decide +kernel, by decide +kernel, by decide +kernel, ⟨a, ha⟩, ⟨b, hb⟩, heard_bad.2.2.1, by decide +kernel,
    by decide +kernel⟩

/-- The words of a capability of a version and a channel count. -/
def aCap (version channels : Nat) : List Word :=
  let word := fun (i v : Nat) => BitVec.ofNat 64 (6 * 2 ^ 61 + i * 2 ^ 58 + v)
  [word 0 (version * 2 ^ 54 + channels * 2 ^ 41 + 2 ^ 40), word 1 (5 * 2 ^ 34 + 77 * 2 ^ 18), word 2 99] ++ List.replicate 29 0#64

theorem witness_CapabilitiesAreTaken :
    ((portIn .exchange aPort).port 9).st = .exchange ∧ ((portIn .exchange aPort).port 9).rx = aPort.rx ∧
    (∀ v ∈ [1, 2, 3], ∃ wire, frameGood (heard aPort.rx wire) 3 = true ∧ (heard aPort.rx wire).words = aCap v 20) ∧
    capRefusal (aCap 2 20) = none ∧ capRefusal (aCap 1 20) = none ∧ ((aCap 1 20).getD 0 0#64).extractLsb' 54 4 = 1#4 ∧
    (capRefusal (aCap 3 20)).isSome = true ∧ frameSound (heard aPort.rx []) = false ∧ 3 ≤ aPort.capsSent ∧
    ({ aPort with capsSent := 2 } : Port).capsSent < 3 ∧ (portIn .exchange aPort).decides = true :=
  ⟨by decide +kernel, by decide +kernel, fun v _ => heard_good 3 (aCap v 20) (by decide) rfl, by decide +kernel, by decide +kernel,
    by decide +kernel, by decide +kernel, heard_bad.2.2.1, by decide +kernel, by decide +kernel, by decide +kernel⟩

theorem witness_ActiveFramesAreCounted :
    ((portIn .active aPort).port 9).st = .active ∧ ((portIn .active aPort).port 9).rx = aPort.rx ∧
    (∀ k ∈ [0, 1, 2, 3, 5], ∃ wire, frameGood (heard aPort.rx wire) k = true) ∧ aPort.timing.waiting = none ∧
    (frameSound (heard aPort.rx (List.replicate 40 true)) = false ∧ (heard aPort.rx (List.replicate 40 true)).stuffError = true) ∧
    (frameSound (heard aPort.rx []) = false ∧ (heard aPort.rx []).stuffError = false) := by
  refine ⟨by decide +kernel, by decide +kernel, fun k hk => ?_, by decide +kernel, ⟨heard_bad.1, heard_bad.2.1⟩, heard_bad.2.2⟩
  obtain ⟨wire, h, -⟩ := heard_good k zeros (by fin_cases hk <;> decide) rfl
  exact ⟨wire, h⟩

/-- A hit word of a channel at a local tick. -/
def hitWordOf (chan tick : Nat) : Word := BitVec.ofNat 64 (chan * 2 ^ 49 + tick * 2 ^ 25 + 77 * 2 ^ 12 + 5)

/-- Port 9 in service in a run whose slices from 3,950 on are not sealed. -/
def taking (l : Tab Nat) : State := { portIn .active aPort with
  cfg := cfgOf l
  hist := { History.empty with
    nextClose := 3900, firstSlice := 3000, nextSeal := some 3950, nextIndex := 3800, lastSeal := some (sliceStart 3950)
    seals := [(3949, sliceStart 3949)] } }

/-- The provisional time of such a word that arrives at the beginning of slice 4,096. -/
def provisional (tick : Nat) : Tw := extend 0x100000000#64 160 (tick * 8192 + 77)

theorem witness_HitWordsAreAcceptedOrCounted : let s := taking [(chanKey 9 19, 2 ^ 31)]
    s.sys.dev = .run ∧ (s.port 9).timing.da = some 160 ∧ (s.port 9).timing.missing = false ∧ (s.port 9).channels ≤ 20 ∧
    19 < (s.port 9).channels ∧ (s.confAt 4000 ⟨chanKey 9 19, 0⟩).testBit 31 = true ∧
    (s.confAt 4000 ⟨chanKey 9 3, 0⟩).testBit 31 = false ∧ (s.port 9).disableAt = none ∧
    before (provisional 0) (sliceStart 0) = false ∧ s.hist.pages < 8192 ∧ (0 : Nat) < 2 ^ 37 := by decide +kernel

theorem witness_HitWordsAreAcceptedOrCounted_times : let s := taking []
    (let n := sliceOf (provisional 524188)
     s.inRun n = true ∧ sliceLt n s.hist.nextClose = false ∧ before 0x100000000#64 (s.sealOf n) = true ∧ Tab.look s.hist.full n = none) ∧
    -((max (s.confAt 4095 cAcceptPast) 129 : Nat) : Int) * 2 ^ 20 ≤ twDiff (provisional 524188) 0x100000000#64 ∧
    twDiff (provisional 524188) 0x100000000#64 < (s.confAt 4095 cAcceptFuture : Int) * 2 ^ 20 ∧
    (let n := sliceOf (provisional (524288 - 147 * 128))
     s.inRun n = true ∧ before 0x100000000#64 (s.sealOf n) = false) ∧
    ¬ twDiff (provisional 526288) 0x100000000#64 < (s.confAt 4111 cAcceptFuture : Int) * 2 ^ 20 ∧
    ¬ -((max (s.confAt 0 cAcceptPast) 129 : Nat) : Int) * 2 ^ 20 ≤ twDiff (provisional 0) 0x100000000#64 := by decide +kernel

theorem witness_LaneGroupsAndQuarantine :
    let s : State := { portIn .quarantine aPort with groups := [(1, ⟨1, 0x100000000#64⟩)], cfg := cfgOf [(cQuarantineHold.key, 1)] }
    let t : State := { s with groups := [(1, ⟨3, 0x100000000#64⟩)], cfg := cfgOf [(cQuarantineHold.key, 0)] }
    (s.group 1).phase = 1 ∧ (∀ q ∈ List.range 192, q / 8 = 1 → (s.port q).disableAt = none) ∧ 10240000 ≤ ((s.elapse 30000000).tb.c - (s.group 1).since).toNat ∧ (t.group 1).phase = 3 ∧
    (s.port 9).st = .quarantine ∧ s.conf cQuarantineHold ≠ 0 ∧
    s.conf cQuarantineHold * 1000000 * 1024000 ≤ ((s.elapse 30000000000).tb.c - (s.port 9).since).toNat ∧
    t.conf cQuarantineHold = 0 ∧ (s.port 9).timing.lastCode = some 127#7 := by decide +kernel

/-! ### Witnesses: slices, triggers, records -/

/-- A context of class 3 over slices 4,000 and 4,001 that pins the log from word `pin` on. -/
def aContext (pin : Nat) : Context :=
  ⟨3, sliceStart 4000, sliceStart 4002, 7#32, 0, derivedTrig .tin 2 3 (sliceStart 4001), 1, 4001, 0, false, false, false, pin,
    0#64, none⟩

/-- A hit of port 9, channel 2. -/
def aHit (t : Tw) (order : Nat) : Hit := ⟨t, 9, 2, 0#4, 5#20, order⟩

/-- A unit that is about to seal slice 4,000. -/
def sealing : State :=
  let s := paired []
  { s with
    hist := { s.hist with
      nextSeal := some 4000, nextClose := 3990, nextIndex := 3990, nextFinal := 2900
      losses := [(lossKey 3 1 5, 7), (lossKey 3 2 5, 9)], lossSlice := 3990 }
    ports := [(5, { Port.empty with st := .active, disableAt := some 4000 })] }

theorem witness_SlicesSealInTurn :
    sealing.hist.nextSeal = some 4000 ∧ Tab.look sealing.hist.seals 4000 = none ∧ sealing.runHas 4000 = true ∧
    notAfter (sliceStart (4000 + 1 + sealing.confAt 4000 cSealDelay)) (sealing.elapse 3).now = true ∧ sealing.decides = true ∧
    sealing.forwards = true ∧ sealing.stayUp = true ∧
    (∃ e ∈ sealing.ports, e.1 = (5 : Fin 192).val ∧ e.2.disableAt = some 4000) ∧
    notAfter (({ sealing with hist := { sealing.hist with nextSeal := some 4090 } } : State).sealOf 4090) (sealing.elapse 3).now = false ∧
    sliceLt 2900 sealing.hist.nextIndex = true ∧
    notAfter (sliceStart (2900 + 1 + max (sealing.confAt 2900 cAcceptPast) 129)) (sealing.elapse 3).now = true ∧
    sealing.hist.losses ≠ [] ∧ sliceLt sealing.hist.lossSlice (sealing.elapse 3).slice = true ∧
    sealing.conf cLossLogLimit < 8388608 := by decide +kernel

theorem witness_SlicesSealInTurn_limit :
    let s : State := { running [(cLossLogLimit.key, 1)] with hist := sealing.hist }
    s.conf cLossLogLimit < s.hist.losses.length ∧ sealing.hist.losses.length ≤ sealing.conf cLossLogLimit ∧
    (∀ e ∈ s.ports, e.2.disableAt ≠ some 4000) := by decide +kernel

/-- The index entry of slice 3,999. -/
def anEntry : IndexEntry := ⟨3999, 0#16, 40, 1, false, false, false, 0, 60, 0#64, 60⟩

/-- A unit that closes slice 4,000 at a level. -/
def closing (level : Nat) : State :=
  let s := paired []
  { s with hist := { s.hist with
      nextSeal := some 4020, nextClose := 4000, nextIndex := 3999, seals := [(4000, sliceStart 4033)], decided := [(4000, level)]
      buckets := [(4000, [aHit (sliceStart 4000 + 70#64) 3, aHit (sliceStart 4000 + 5#64) 2, aHit (sliceStart 4000 + 70#64) 1])]
      head := 100, written := [(3999, anEntry)] } }

theorem witness_SlicesCloseIntoTheLog :
    ((closing 1).elapse 3).closeDue 4000 = true ∧ Tab.look (closing 1).hist.decided 4000 = some 1 ∧
    Tab.look (closing 1).hist.full 4000 = none ∧ 8 * 3 ≤ (closing 1).headroom ∧ 3 + 31 ≤ (closing 1).logWords ∧
    ¬ (3 < 3) ∧ Tab.look (closing 3).hist.decided 4000 = some 3 ∧
    ((sealing).elapse 3).closeDue 3990 = false ∧ Tab.look (closing 1).hist.written 3999 = some anEntry ∧
    (closing 1).trig.refused = [] ∧ (∀ c ∈ (closing 1).trig.contexts, c.2.closable 3999 = false) ∧
    ({ aContext 50 with wstart := sliceStart 3998, wend := sliceStart 3999, binding := 3999 } : Context).closable 3999 = true ∧
    (aContext 50).continues = false := by decide +kernel

/-- A trigger of class 3 with a window from `a` to `b` fu after the beginning of slice 4,000. -/
def windowAt (a b : Int) : Trig :=
  { derivedTrig .tin 2 3 (sliceStart 4000) with wstart := sliceStart 4000 + BitVec.ofInt 64 a, wend := sliceStart 4000 + BitVec.ofInt 64 b }

/-- The latest window of class 3: the first 5,000 fu of slice 4,000. -/
def aLatest (c : Option Nat) : Latest := ⟨sliceStart 4000, sliceStart 4000 + 5000#64, c, 6#32⟩

/-- A unit whose class 3 has that latest window. -/
def placing (l : Option Latest) (cs : Tab Context) : State :=
  let s := running [((cClsMergeGap 3).key, 1000)]
  { s with
    hist := { s.hist with firstRun := 3900, nextClose := 4001, nextIndex := 4000, newest := 3999, oldest := 3900 }
    trig := { s.trig with classes := [(3, ⟨0, l, 7#32⟩)], contexts := cs } }

theorem witness_TriggersArePlaced :
    let s := placing (some (aLatest (some 1))) [(1, aContext 40)]
    windowValid 4001 (windowAt 5 5) = false ∧ windowValid 4001 (windowAt 5 9000) = true ∧
    s.windowOld 3920 (windowAt 5 9000) = false ∧ s.windowOld 3920 (windowAt (-90 * 2 ^ 20) 4) = true ∧
    windowValid 4001 (windowAt (-90 * 2 ^ 20) 4) = true ∧ (s.cls 3).latest = some (aLatest (some 1)) ∧
    before (windowAt (-10) 3).wstart (aLatest none).ls = true ∧ before (windowAt 0 5000).wstart (aLatest none).ls = false ∧
    notAfter (windowAt 0 5000).wend (aLatest none).le = true ∧ notAfter (windowAt 10 5001).wend (aLatest none).le = false ∧
    Tab.look s.trig.contexts 1 = some (aContext 40) ∧ (aContext 40).cls = 3 ∧ s.hist.runStop = none ∧
    before (windowAt 5999 9000).wstart ((aLatest none).le + BitVec.ofNat 64 (s.confAt 4001 (cClsMergeGap 3))) = true ∧
    before (windowAt 6000 9000).wstart ((aLatest none).le + BitVec.ofNat 64 (s.confAt 4001 (cClsMergeGap 3))) = false ∧
    s.trig.contexts.length < 3072 ∧ ((placing none []).cls 3).latest = none := by decide +kernel

/-- The first 56 bytes of an alert datagram of key slot 2 and class 3, with a sequence number. -/
def aBody (seq : Nat) : List Byte :=
  let be := fun (n v : Nat) => (leBytes n v).reverse
  be 2 0x4B41 ++ be 1 1 ++ be 1 2 ++ be 4 77 ++ be 8 seq ++ be 6 4 ++ be 4 0 ++ be 6 4 ++ be 4 500 ++ be 4 3 ++ be 4 9 ++
    be 1 3 ++ List.replicate 11 0#8

/-- The datagram: the body and its MAC. -/
def aDatagram (seq : Nat) : List Byte := aBody seq ++ alertMac (leBytes 16 0x1234567) (aBody seq)

theorem aDatagram_mac (seq : Nat) (h : (aBody seq).length = 56) :
    (aDatagram seq).take 56 = aBody seq ∧
    alertMac (leBytes 16 0x1234567) (aDatagram seq) = (aDatagram seq).drop 56 := by
  have e : (aBody seq).take 56 = aBody seq := List.take_of_length_le (by omega)
  simp [aDatagram, alertMac, h, e]

/-- A unit that accepts such datagrams. -/
def alerted : State :=
  let s := running [(cAlertEnable.key, 1), ((cEthIpv4Address 0).key, 5), (cAlertGroup.key, 9), (cAlertKeyEnable.key, 4),
    ((cAlertKey 2).key, 0x1234567)]
  { s with
    tb := { s.tb with anchorValid := true, anchorTw := 0x100000000#64, anchorSec := 4 }
    hist := { s.hist with nextSeal := some 4090, nextClose := 4080, firstSlice := 3000 }
    eth := Vector.replicate 2 anEth
    trig := { s.trig with alertSeq := [(2, 5#64)] } }

/-- A frame for port 47890 of 0.0.0.5 with a payload of 64 bytes. -/
def alertFrame (d : List Byte) : List Byte :=
  let be := beBytes
  be 6 7 ++ be 6 8 ++ be 2 0x0800 ++ (be 2 0x4500 ++ be 2 92 ++ be 4 0 ++ be 2 0x0111 ++ be 2 0xAF8B ++ be 4 0x0A000002 ++ be 4 5) ++
    (be 2 9 ++ be 2 47890 ++ be 2 72 ++ be 2 0) ++ d

theorem witness_TriggersArePlaced_alerts :
    let tr := (alerted.elapse 3).rxStamp 0 ⟨0, 0⟩
    let late : State := { alerted with hist := { alerted.hist with seals := [(4089, 0x100000001#64)] } }
    (alerted.ethPort 0).link = true ∧ (State.reset.ethPort 0).link = false ∧
    alerted.alertPayload (sliceOf tr) 0 (alertFrame (List.replicate 64 3#8)) = some (List.replicate 64 3#8) ∧
    alerted.alertPayload (sliceOf tr) 0 (ptpFrame (ptpMsg 0 0 9 0#8)) = none ∧ (inRole .mizzen alerted).sys.role = .mizzen ∧
    alerted.sys.role ≠ .mizzen ∧ (aBody 6).length = 56 ∧ beAt (aBody 6) 0 2 = 0x4B41 ∧ beAt (aBody 6) 2 1 = 1 ∧
    bit (alerted.confAt (sliceOf tr) cAlertKeyEnable) (beAt (aBody 6) 3 1) = true ∧
    alerted.confAt (sliceOf tr) (cAlertKey 2) = 0x1234567 ∧ alerted.tb.anchorValid = true ∧
    (Tab.get 0#64 alerted.trig.alertSeq 2).toNat < beAt (aBody 6) 8 8 ∧ beAt (aBody 5) 8 8 ≤ (Tab.get 0#64 alerted.trig.alertSeq 2).toNat ∧
    alerted.sys.dev = .run ∧ alerted.sys.role ≠ .fenced ∧ alerted.sealedAfter tr = none ∧ late.sealedAfter tr ≠ none ∧
    |twDiff tr (alerted.ofPtp (beAt (aBody 6) 16 6) (beAt (aBody 6) 22 4))| ≤ alerted.confAt (sliceOf tr) cAlertMaxAge * 1024000 ∧
    alerted.inRun (alerted.bindingOf tr) = true ∧ sliceLt (alerted.bindingOf tr) alerted.hist.nextClose = false := by decide +kernel

/-! ### Witnesses: feature processors -/

/-- A packet of three words on port 9. -/
def aPacket : Packet := ⟨9, 3, 0x5000#64, 7, [0xFEDCBA987654321#64, 5#64, 9#64], false, 0, 100, 4⟩

/-- A core that runs that packet at program counter 5, where a word stands, in open loops. -/
def aCore (w : BitVec 48) (loops : List (Nat × Nat)) : Core :=
  { Core.empty with
    state := .busy, running := some aPacket, budget := 97, prog := [(5, w)]
    regs := { Regs.empty with pc := 5, loops := loops, d := (Vector.replicate 8 0#24).set 2 3#24, lc := Vector.replicate 4 2#16 } }

/-- A unit whose core 1 is that one. -/
def computing (w : BitVec 48) (loops : List (Nat × Nat)) : State := { running [] with cores := [(1, aCore w loops)] }

/-- FpReady as a check. -/
def isReady (g : CoreId) (i : Instr) (s : State) : Bool :=
  let c := s.core g.val
  decide (c.state = .busy) && c.running.isSome && decide (c.regs.pc ≤ 0x3FFF) && decide (c.badP.contains c.regs.pc = false) &&
  decide (fpDecode g (Tab.get 0#48 c.prog c.regs.pc) = some i) && loopFits c.regs.pc i && decide (fpCost i ≤ c.budget) &&
  decide ((fpEffect i c).bad = [])

theorem ready_of_check (g : CoreId) (i : Instr) (s : State) (h : isReady g i s = true) : FpReady g i s := by
  simp only [isReady, Bool.and_eq_true, decide_eq_true_eq] at h
  obtain ⟨⟨⟨⟨⟨⟨⟨h1, h2⟩, h3⟩, h4⟩, h5⟩, h6⟩, h7⟩, h8⟩ := h
  exact ⟨h1, h2, h3, h4, h5, h6, h7, h8⟩

/-- Fields of format A without moves, and with a load from X and a store to Y. -/
def plainA : FmtA := ⟨1#2, 2#3, 3#3, 4#3, 5#3, ⟨false, false, 0#4, 0#3, 0#2⟩, ⟨false, false, 0#4, 0#3, 0#2⟩⟩

def movingA : FmtA := { plainA with x := ⟨true, false, 5#4, 0#3, 1#2⟩, y := ⟨true, true, 9#4, 4#3, 2#2⟩ }

/-- Every instruction of format A, for one value of its fields. -/
def allA (f : FmtA) : List Instr := (List.range 28).filterMap (fmtAInstr 1 f)

theorem witness_FormatAInstructions : ∀ i ∈ allA plainA ++ allA movingA, FpReady 1 i (computing (fpEncode i) []) := by
  have h : (allA plainA ++ allA movingA).all (fun i => isReady 1 i (computing (fpEncode i) [])) = true := by decide +kernel
  exact fun i m => ready_of_check _ _ _ (List.all_eq_true.mp h i m)

theorem witness_FormatAInstructions_all : (allA plainA).length = 28 := by decide +kernel

/-- Every instruction of format B that runs on from a fresh core, with some operands. -/
def someB : List Instr :=
  [.nop 1, .ldi 1 2#3 5#24, .addi 1 2#3 0x7FFFFF#24, .andi 1 2#3 1#24, .ori 1 2#3 1#24, .addd 1 1#3 2#3 3#3, .subd 1 1#3 2#3 3#3,
   .srai 1 2#3 31#5, .slli 1 2#3 24#5, .ldp 1 7#3 0xFFFF#16, .ldn 1 7#3 1#16, .lea 1 7#3 0#3 2#16, .rdr 1 1#3 0#5, .rdr 1 1#3 15#5,
   .rdr 1 1#3 16#5, .rdr 1 1#3 20#5, .wrr 1 0#5 2#3, .wrr 1 15#5 2#3, .wrr 1 19#5 2#3, .wrr 1 20#5 2#3, .geta 1 1#3 2#2 0#2,
   .geta 1 1#3 2#2 1#2, .geta 1 1#3 2#2 2#2, .satu 1 1#3 3#2, .ldx 1 1#3 ⟨0#3, 5#3⟩, .ldy 1 1#3 ⟨1#3, 0#3⟩, .stx 1 1#3 ⟨1#3, 1#3⟩,
   .sty 1 1#3 ⟨0#3, 2#3⟩, .cmpm 1 1#2 ⟨0#3, 1#3⟩, .maxs 1 1#2 ⟨1#3, 1#3⟩ 7#3, .divs 1 1#2 2#3, .ftap 1 0#2 1#3 2#3,
   .imul 1 0#2 1#3 2#3, .imac 1 0#2 1#3 2#3, .sraa 1 0#2 63#6, .slla 1 0#2 0#6, .loop 1 0#16 3#14, .loop 1 9#16 0x3FFA#14,
   .loopr 1 2#3 3#14, .jump 1 0#14, .jcc 1 0#4 9#14, .jcc 1 10#4 9#14, .exitcc 1 0#4, .emit 1 1#3 2#3, .prim 1 1#3 63#6, .done 1]

theorem witness_FormatBInstructions : ∀ i ∈ someB, FpReady 1 i (computing (fpEncode i) [(0, 20), (3, 9)]) ∧
    FpReady 1 i (computing (fpEncode i) []) := by
  have h : someB.all (fun i => isReady 1 i (computing (fpEncode i) [(0, 20), (3, 9)]) && isReady 1 i (computing (fpEncode i) [])) =
    true := by decide +kernel
  intro i m
  have := List.all_eq_true.mp h i m
  simp only [Bool.and_eq_true] at this
  exact ⟨ready_of_check _ _ _ this.1, ready_of_check _ _ _ this.2⟩

theorem witness_LoopsAndJumps : let r := ((computing (fpEncode (.nop 1)) [(0, 20), (3, 5)]).core 1).regs
    r.loops = [(0, 20)] ++ [(3, r.pc)] ∧ r.loops.length < 4 ∧ (∀ l, [(0, 20)].getLast? = some l → l.2 ≠ r.pc) ∧
    1 < (r.cnt (BitVec.ofNat 2 [(0, 20)].length)).toNat ∧
    FpReady 1 (.nop 1) (computing (fpEncode (.nop 1)) [(0, 20), (3, 5)]) :=
  ⟨by decide +kernel, by decide +kernel, fun l h => by simp at h; subst h; decide +kernel, by decide +kernel,
    ready_of_check _ _ _ (by decide +kernel)⟩

theorem witness_PacketResultsAndEnd : let c := (computing (fpEncode (.done 1)) []).core 1
    c.running = some aPacket ∧ c.results = [] ∧ c.results.length < 32 ∧ 32 ≤ (List.replicate 32 (Result.prim 5#64 1)).length ∧
    c.loadFrom = none ∧ c.offFrom = none := by decide +kernel

theorem witness_FeatureWordsDecodeBack : fpCore (.maxs 1 1#2 ⟨1#3, 1#3⟩ 7#3) = some 1 ∧ fpLegal (.maxs 1 1#2 ⟨1#3, 1#3⟩ 7#3) = true ∧
    fpDecode 1 0x2893C0000000#48 = some (.maxs 1 1#2 ⟨1#3, 1#3⟩ 7#3) := by decide +kernel

/-- A core that runs that packet with a budget, at a program counter. -/
def poorCore (w : BitVec 48) (budget pc : Nat) : Core :=
  { aCore w [] with budget := budget, regs := { Regs.empty with pc := pc } }

theorem witness_PacketAbortsLeaveFallbackHit : let c := poorCore (fpEncode (.jump 1 3#14)) 1 5
    let l := poorCore (fpEncode (.ldx 1 1#3 ⟨0#3, 0#3⟩)) 9 5
    c.running = some aPacket ∧ c.state = .busy ∧ c.loadFrom = none ∧ c.offFrom = none ∧ c.reloadNow = false ∧ c.regs.pc ≤ 0x3FFF ∧
    c.badP.contains c.regs.pc = false ∧ fpDecode 1 (Tab.get 0#48 c.prog 5) = some (.jump 1 3#14) ∧
    loopFits 5 (.jump 1 3#14) = true ∧ c.budget < fpCost (.jump 1 3#14) ∧
    fpDecode 1 (Tab.get 0#48 l.prog 5) = some (.ldx 1 1#3 ⟨0#3, 0#3⟩) ∧ fpCost (.ldx 1 1#3 ⟨0#3, 0#3⟩) ≤ l.budget ∧
    (FpSpace.x, 0x7000) ∈ (fpEffect (.ldx 1 1#3 ⟨0#3, 0#3⟩) (l.upset .x 0x7000)).bad ∧
    0x3FFF < (poorCore 0#48 9 0x4000).regs.pc ∧ fpDecode 1 (Tab.get 0#48 (poorCore 0#48 9 5).prog 5) = none := by decide +kernel

theorem witness_PacketStartSetsRegistersAndWindow : let c : Core := { Core.empty with state := .idle, queue := [aPacket, aPacket] }
    let s : State := { running [] with cores := [(1, c)] }
    (s.core 1).state = .idle ∧ (s.core 1).queue = aPacket :: [aPacket] ∧ (s.core 1).loadFrom = none ∧ (s.elapse 3).pendingLoad 1 = none ∧
    ((s.elapse 3).samplesOf aPacket)[0]? ≠ none := by decide +kernel

/-- A small feature image: one program word, one constant, one bank word. -/
def anImage : List Byte :=
  leBytes 4 0x4B434650 ++ leBytes 2 1 ++ leBytes 2 0 ++ leBytes 2 0 ++ leBytes 2 1 ++ leBytes 2 1 ++ leBytes 2 1 ++ leBytes 4 99 ++
    List.replicate 44 0#8 ++ leBytes 8 0x123456789ABC ++ leBytes 4 5 ++ leBytes 4 6

/-- A unit whose core 1 is the given one; slot 1, which core 1 takes, holds an image and slot 2 holds none. -/
def imaged (c : Core) : State := { running [] with
  cores := [(1, c)], cfg := { cfgOf [((cFpImageMap 1).key, 1)] with images := [(1, anImage)] } }

/-- The three loads of a core, with and without an image in the slot. -/
theorem witness_ImageLoadsFillMemories :
    let loading := fun (kind slot : Nat) => imaged { Core.empty with state := .loading, loadKind := kind, slot := slot, badX := [7], queue := [aPacket] }
    let bare : State := { loading 3 0 with cfg := cfgOf [((cFpImageMap 1).key, 2)] }
    (∀ k ∈ [1, 3, 4], ((loading k 1).core 1).state = .loading ∧ ((loading k 1).core 1).loadKind = k ∧
      (loading k 1).image (((loading k 1).elapse 3).slotOf 1) = some anImage ∧ (loading k 1).image 1 = some anImage ∧
      ((loading k 1).core 1).loadFrom = none ∧ ((loading k 1).core 1).offFrom = none ∧ ((loading k 1).core 1).reloadNow = false) ∧
    (loading 1 2).image 2 = none ∧ (bare.core 1).loadKind = 3 ∧ bare.image ((bare.elapse 3).slotOf 1) = none ∧
    ((imaged Core.empty).core 1).state ≠ .loading ∧ leAt anImage 14 2 ≤ 0xC00 := by decide +kernel

/-- Errors in a core's memories, and a due reload of an idle and of a running core. -/
theorem witness_ImageLoadsFillMemories_upsets :
    let idle : Core := { Core.empty with state := .idle, reloadDue := true }
    let busy : Core := { idle with state := .busy, running := some aPacket }
    ((imaged idle).core 1).state ≠ .off ∧ ((imaged Core.empty).core 1).state = .off ∧ ((imaged idle).core 1).reloadDue = true ∧
    ((imaged idle).core 1).state = .idle ∧ ((imaged idle).core 1).running = none ∧ ((imaged idle).core 1).offFrom = none ∧
    ((imaged busy).core 1).reloadDue = true ∧ ((imaged busy).core 1).running ≠ none ∧
    ((imaged Core.empty).core 1).reloadDue = false := by decide +kernel

/-! ### Witnesses: host port -/

/-- A queue in a state, with 6 posted descriptors of which 2 are read. -/
def aQueue (st : QueueState) : Queue := { Queue.empty with
  descBase := 0x1000#64, complBase := 0x2000#64, descLog2 := 6, complLog2 := 7, vector := 3, modCount := 2, state := st, descHead := 3
  descTail := 9, fetched := [⟨0x4000#64, 4096#32, 77#32⟩, ⟨0x8000#64, 64#32, 78#32⟩], line := [9, 10], intr := true, armed := true
  unsignalled := 1, complTail := 127, complHead := 5 }

/-- A transfer of record 9 that used one descriptor. -/
def aTransfer : Transfer := ⟨9#64, List.replicate 200 1#8, 3, 1, 77#32, true⟩

/-- A closed record of class 3 whose data starts at word 40 of the log. -/
def aRecord (k : Nat) : Record :=
  { seq := BitVec.ofNat 64 k, wstart := sliceStart 4000, wend := sliceStart 4002, trig := derivedTrig .tin 2 3 (sliceStart 4001)
    flags := 0#16, covered := 2, count := 1, number := 7#32, cont := 0, binding := 4001, epoch := 0#64, stragglers := 1
    marks := [0#4, 8#4], words := 3, pin := some 40, queue := 5, firstQueue := 5, closing := 4002, closedAt := sliceStart 4003
    overflowed := false, replay := true, hollow := false, inTransfer := false, reads := [], readC := 0#64 }

/-- A unit in RUN whose link is up and whose queue 5 is the given one. -/
def hosting (x : Queue) (l : Tab Nat) : State :=
  let s := running l
  { s with
    host := { s.host with gen := 4, width := 8, busMaster := true, d0 := true, queues := [(5, x)], msix := [(3, 0#128)], msixPending := [7] }
    trig := { s.trig with records := [(9, aRecord 9), (10, aRecord 10)] } }

theorem witness_QueuesTurnOnAndOff : let s := hosting (aQueue .disabled) []
    let x := s.queue 5
    let good : Desc := ⟨64#64, 128#32, 5#32⟩
    s.sys.dev ≠ .powered ∧ s.sys.dev ≠ .boot ∧ x.state = .disabled ∧
    (x.descBase.toNat % 4096 = 0 ∧ x.complBase.toNat % 4096 = 0 ∧ 6 ≤ x.descLog2 ∧ x.descLog2 ≤ 16 ∧ 6 ≤ x.complLog2 ∧ x.complLog2 ≤ 16) ∧
    x.vector ≤ 2047 ∧ 1 ≤ x.modCount ∧ ¬ 6 ≤ ({ x with descLog2 := 5 } : Queue).descLog2 ∧ 2047 < ({ x with vector := 2048 } : Queue).vector ∧
    (3#8 : BitVec 8).getLsbD 0 = true ∧ (2#8 : BitVec 8).getLsbD 0 = false ∧ ((hosting (aQueue .active) []).queue 5).transfer = none ∧
    ((hosting { aQueue .active with transfer := some aTransfer } []).queue 5).transfer ≠ none ∧
    ((hosting (aQueue .error) []).queue 5).state = .error ∧ 24 % 4 = 0 ∧ (20#32 : BitVec 32).toNat % 65536 < 2 ^ x.descLog2 ∧
    2 ^ x.descLog2 ≤ (64#32 : BitVec 32).toNat % 65536 ∧ 2 ^ x.complLog2 ≤ (0x80000080#32 : BitVec 32).toNat % 65536 ∧
    s.delivers = true ∧ s.hostReady = true ∧ x.fetched.length < (x.descTail + 2 ^ x.descLog2 - x.descHead) % 2 ^ x.descLog2 ∧
    (good.addr.toNat % 64 = 0 ∧ good.len.toNat % 64 = 0 ∧ 64 ≤ good.len.toNat ∧ good.len.toNat ≤ 16777216) ∧
    ¬ (65#64 : BitVec 64).toNat % 64 = 0 := by decide +kernel

theorem witness_TransfersDeliverRecords : let s := hosting (aQueue .active) []
    let full := hosting { aQueue .active with line := [9], fetched := [], descTail := 3 } [((groupObj 0 12).key, 10)]
    let due := hosting { aQueue .active with unsignalled := 2 } []
    let moving := hosting { aQueue .active with transfer := some aTransfer } []
    s.delivers = true ∧ s.nextQueue = some 5 ∧ s.transfers < 64 ∧ (s.queue 5).line = 9 :: [10] ∧ s.record 9 = some (aRecord 9) ∧
    moving.nextQueue ≠ some 5 ∧ (moving.queue 5).transfer = some aTransfer ∧ moving.record aTransfer.seq.toNat = some (aRecord 9) ∧
    full.delivers = true ∧ (full.queue 5).line = 9 :: [] ∧ full.record 9 = some (aRecord 9) ∧ full.headOf 5 = .full ∧
    full.conf (groupObj 0 9) = 0 ∧ full.conf (groupObj 0 12) ≠ 0 ∧
    ((10 * 1024000 : Nat) : Int) ≤ twDiff (full.elapse 300000).now (aRecord 9).closedAt ∧ s.conf (groupObj 0 12) = 0 ∧
    due.hostReady = true ∧ (due.queue 5).intr = true ∧ (due.queue 5).armed = true ∧ (due.queue 5).modCount ≤ (due.queue 5).unsignalled ∧
    (Tab.get msixReset due.host.msix (due.queue 5).vector).getLsbD 96 = false ∧
    (Tab.get msixReset due.host.msix 4).getLsbD 96 = true ∧ 0 < s.host.mps ∧ s.sys.role = .solo ∧
    (inRole .fenced moving).sys.role = .fenced ∧ ¬ (s.queue 5).modCount ≤ (s.queue 5).unsignalled := by decide +kernel

theorem witness_HostLinkAndAccesses : let s := hosting { aQueue .active with transfer := some aTransfer } []
    let reset : State := { s with sys := { s.sys with perst := true } }
    let owned : State := { s with cfg := { s.cfg with owner := 2 }, ctl := { s.ctl with sessions := [(2, aSession .canA 3 0)] } }
    s.sys.dev ≠ .powered ∧ s.sys.perst = false ∧ reset.sys.perst = true ∧ s.host.queues = [(5, { aQueue .active with transfer := some aTransfer })] ∧
    s.sys.dev ≠ .boot ∧ s.canOwns = false ∧ owned.canOwns = true ∧ 786431 < 786432 ∧
    (let beyond : State := { s with stat := [(kHbmDegraded, 1)], cfg := { s.cfg with imm := [(cBar4Base.key, 96)] } }
     beyond.count kHbmDegraded = 1 ∧ 95 < beyond.imm cBar4Base) ∧ 7 ∈ s.host.msixPending ∧ s.delivers = true ∧ s.hostReady = true ∧ (0#64 : BitVec 64).getLsbD 0 = false := by decide +kernel

/-! ### Witnesses: timing inputs and monitor -/

/-- An edge that arrived at a time. -/
def anEdge (kind : EdgeKind) (te : Nat) : Edge := ⟨kind, 1, BitVec.ofNat 64 te, true, true, 9#8, true⟩

/-- A start edge that waits for its stop. -/
def aStart (te : Nat) : GateStart := ⟨anEdge .start te, true, 5000⟩

/-- A unit whose timing input 3 has a mode, both edges selected. -/
def measuring (mode : Nat) (x : Tin) : State :=
  { running [((cTinMode 3).key, mode), ((cTinEdge 3).key, 3), ((cTinGatePeriod 3).key, 10)] with tins := [(3, x)] }

/-- One configuration holds at every slice of such a unit. -/
theorem measuring_conf (mode : Nat) (x : Tin) (n : Nat) (o : Obj) :
    (measuring mode x).confAt n o = (measuring mode x).confAt 0 o := rfl

theorem measuring_gates (mode : Nat) (x : Tin) (n m : Nat) : (measuring mode x).gatesOf n m = (measuring mode x).gatesOf 0 m := rfl

theorem witness_TimingInputsMeasure : let s := measuring 1 Tin.empty
    (s.elapse 3).inputsOn = true ∧ (inDev .fault s).inputsOn = false ∧
    (∀ n, s.confAt n (cTinMode 3) = 1 ∧ selects (s.confAt n (cTinEdge 3)) false = true ∧ s.confAt n cInterpolatorUse = 0 ∧
      (measuring 0 Tin.empty).confAt n (cTinMode 3) = 0 ∧ s.gatesOf n 3 = []) ∧ (s.tin 3).busyA = none ∧ (s.tin 3).lastB = true ∧
    (measuring 1 { Tin.empty with edges := [anEdge .stamp 5] }).tin 3 = { Tin.empty with edges := anEdge .stamp 5 :: [] } ∧
    (s.elapse 3).timerPower = true ∧ (s.tin 3).lockA ≠ true := by
  refine ⟨by decide +kernel, by decide +kernel, fun n => ⟨?_, ?_, ?_, ?_, ?_⟩, by decide +kernel, by decide +kernel,
    by decide +kernel, by decide +kernel, by decide +kernel⟩
  · rw [measuring_conf]; decide +kernel
  · rw [measuring_conf]; decide +kernel
  · rw [measuring_conf]; decide +kernel
  · rw [measuring_conf]; decide +kernel
  · rw [measuring_gates]; decide +kernel

/-- Both interpolators took an edge less than 32 cycles before. -/
theorem witness_TimingInputsMeasure_busy :
    let s := measuring 1 { Tin.empty with busyA := some 5, busyB := some 7 }
    let raw : Int := tickFu * (s.elapse 3).tb.up + 1024 * 5 - 4 * 77 + 2
    (∀ z ∈ [(s.tin 3).busyA, (s.tin 3).busyB], (z.map (fun y => decide (327680 ≤ raw - y))) = some false) ∧
    (s.elapse 3).inputsOn = true ∧ s.sys.dev = .run := by decide +kernel

theorem witness_TimingInputsMeasure_gates : let c := 0x100000000
    let s := measuring 2 { Tin.empty with edges := [anEdge .stop (c - 2000)], pending := some (aStart (c - 2500)) }
    let e := anEdge .stop (c - 2000)
    let f := measuring 3 { Tin.empty with fGate := 4081, fWant := true }
    let g := (f.elapse 3).slice / 10 * 10
    (s.tin 3).edges = e :: [] ∧ notAfter (e.te + 0xFA000#64) (s.elapse 300).now = true ∧ (s.tin 3).pending = some (aStart (c - 2500)) ∧
    notAfter ((aStart (c - 2500)).edge.te + BitVec.ofNat 64 (aStart (c - 2500)).timeout) e.te = false ∧ e.kind = .stop ∧
    (anEdge .start (c - 2000)).kind = .start ∧ (measuring 2 Tin.empty).tin 3 = Tin.empty ∧
    notAfter ((aStart (c - 2500)).edge.te + 5000#64 + 0xFA000#64) (s.elapse 300).now = true ∧
    (∀ y ∈ ([] : List Edge), before y.te ((aStart (c - 2500)).edge.te + 5000#64) = false) ∧
    f.confAt (f.elapse 3).slice (cTinMode 3) = 3 ∧ (f.tin 3).fGate ≠ 0 ∧ sliceLt ((f.tin 3).fGate - 1) g = true ∧
    (f.tin 3).fResult = none ∧ (f.elapse 3).inputsOn = true := by decide +kernel

/-- A unit whose monitor is in a phase, 1,000 fu after the last edge. -/
def watching (ph : MonPhase) (l : Tab Nat) : State :=
  { running ([(cMonRegularLength.key, 2), (cMonInjectedLength.key, 1), (cMonInjectedEnable.key, 1)] ++ l) with
    mon := { Monitor.empty with
      power := true, phase := ph, started := 0x100000000#64 - 1000#64, regular := [⟨5, 2, 1000, 2⟩, ⟨33, 2, 1000, 2⟩], passRunning := true
      injStarts := [0x100000000#64 - 5#64, 7#64], broken := [5, 6], trimValid := true } }

theorem witness_ConversionsRunAndReport : let w := watching .waiting [(cMonRegularMode.key, 1)]
    let c := watching .converting [((cChRangeMode 5).key, 3)]
    w.mon.phase = .waiting ∧ (w.elapse 1000000).reached w.mon.started 2000 = true ∧ w.conf cMonRegularMode = 1 ∧
    0 < w.conf cMonRegularLength ∧ w.sys.dev ≠ .fault ∧ (watching .settling []).conf cMonRegularMode = 0 ∧
    ((watching .settling []).elapse 10000000).reached (watching .settling []).mon.started (watching .settling []).mon.current.settle = true ∧
    (c.mon.phase = .converting ∧ (c.elapse 1000000000).reached c.mon.started (3 * osrOf c.mon.current.rate) = true ∧
      c.mon.current.channel = 5 ∧ c.mon.injected = false) ∧ c.alternates 5 = false ∧ c.mon.reload = none ∧ c.mon.injWait = false ∧
    c.autoRange 5 = false ∧ c.mon.half = none := by decide +kernel

theorem witness_ConversionsRunAndReport_ranges :
    (watching .converting [((cChRangeMode 5).key, 8)]).autoRange 5 = true := by decide +kernel

theorem witness_ConversionsRunAndReport_others :
    let a := watching .converting [((cChRangeMode 5).key, 3), ((cChExcPair 5).key, 1), ((cChAlternate 5).key, 1)]
    let k := watching .checking []
    let i := watching .idle []
    let quiet : State := { i with mon := { i.mon with passRunning := false, regular := [] } }
    a.alternates 5 = true ∧ a.autoRange 5 = false ∧ k.mon.phase = .checking ∧ (k.elapse 1000000).reached k.mon.started 950 = true ∧
    k.mon.current.channel = 5 ∧ i.mon.injStarts = (0x100000000#64 - 5#64) :: [7#64] ∧
    (i.elapse 3).reached (0x100000000#64 - 5#64) 0 = true ∧ i.conf cMonInjectedEnable = 1 ∧ (i.elapse 3).monRuns = true ∧
    (watching .waiting []).sys.dev = .run ∧ ((watching .waiting []).elapse 3).monRuns = false ∧ i.mon.injected = false ∧
    i.mon.injWait = false ∧ (watching .settling []).mon.regularBusy = true ∧
    (watching .settling [(cMonInjectedMode.key, 1)]).conf cMonInjectedMode = 1 ∧ quiet.mon.regularBusy = false ∧
    0 < i.conf cMonInjectedLength := by decide +kernel

theorem witness_ExcitationFaultsAndTrim : let s := watching .idle [((cExcMode 2).key, 1)]
    let f : State := { s with mon := { s.mon with excStatus := 4#8 } }
    let c := 0x100000000#64 - 1000#64
    let r : MonResult := ⟨5, 55#64, -7, 3, 5#6, 1⟩
    let d := watching .converting [((cExcMode 2).key, 2)]
    let t : State := { s with mon := { s.mon with reload := some c, held := [r] } }
    let half : State := { watching .converting [((cChExcPair 5).key, 1), ((cChAlternate 5).key, 1)] with
      mon := { (watching .converting []).mon with half := some ⟨77, true, false, 0xFF000000#64⟩ } }
    s.mon.power = true ∧ s.sys.dev ≠ .fault ∧ s.mon.excStatus.getLsbD 2 = false ∧ s.conf (cExcMode 2) = 1 ∧ (1#3 &&& 3#3) ≠ 0#3 ∧
    f.mon.excStatus.getLsbD 2 = true ∧ s.conf (cExcMode 3) ≠ 1 ∧ s.mon.phase ≠ .waiting ∧
    (s.elapse 30000).reached c 20 = true ∧ r.chan = (5 : Fin 40).val ∧ r.injected = false ∧ s.mon.held = [] ∧ t.mon.held = [r] ∧
    t.mon.reload = some c ∧ (d.conf (cExcMode 2) = 2 ∧ d.alternates d.mon.current.channel = false ∧ d.mon.power = true) ∧
    (inDev .fault s).sys.dev = .fault ∧ half.alternates 5 = true ∧ half.mon.half = some ⟨77, true, false, 0xFF000000#64⟩ := by
  decide +kernel
/-! ### Witnesses: light drive -/

/-- A unit whose boost, lamp bus and sink 2 are enabled. -/
def lighting (l : Light) (atMax : Nat) (more : Tab Nat) : State :=
  { running ([(cLightBoostEnable.key, 1), (cLampEnable.key, 1), ((cSinkEnable 2).key, 1), ((cSinkDim 2).key, 4000), (cLampRetries.key, 2)] ++ more)
    with light := l, stat := [(kLightBoostAtMax, atMax)] }

/-- Sink 2 lit, 20 V at LED_OUT, 900 mV across it. -/
def lit : Light := { Light.empty with ledOut := 20000, slotLit := 4#12, samples := [(2, 900)] }

theorem witness_SinksAndBoost : let s := lighting lit 1 [((cSinkFlashCurrent 2).key, 20000)]
    let out := lighting lit 1 [(cLightBoostEnable.key, 0)]
    let flashing := lighting { lit with flashing := [2] } 1 [((cSinkFlashCurrent 2).key, 60000)]
    let low : State := { s with stat := [(kLightBoostAtMax, 1), (kLightLowHeadroom, 4)] }
    (s.elapse 3).lightPower = true ∧ s.conf (cSinkEnable 2) = 1 ∧ s.light.fault 2 = 0 ∧ s.light.slotLit.getLsbD 2 = true ∧
    s.conf cLightBoostEnable = 1 ∧ s.sys.vled = true ∧ s.flashNeeds = [] ∧ s.light.samples = [((2 : SinkId).val, 900)] ∧
    ({ out with sys := { out.sys with vled := false } } : State).sys.vled = false ∧ s.light.ovp = false ∧ 50000 < 50001 ∧
    ({ lit with ovp := true } : Light).ovp = true ∧ 48499 < 48500 ∧ s.count kLightBoostAtMax = 1 ∧
    s.light.ledOut < 19990 + s.conf cLightShortLimit ∧ 400000000 < 19000 * flashing.conf (cSinkFlashCurrent 2) ∧
    2 ∈ flashing.light.flashing ∧ (lighting { lit with faults := 0x10#24 } 1 []).light.fault 2 ≠ 0 ∧ s.count kLightLowHeadroom / 2 ^ 2 % 2 = 0 ∧
    low.count kLightLowHeadroom / 2 ^ 2 % 2 = 1 := by decide +kernel

theorem witness_LampBusTransactions : let c : LampCmd := ⟨BitVec.ofNat 32 (5 * 2 ^ 26 + 9), 1, true⟩
    let r := BitVec.ofNat 32 (5 * 2 ^ 26 + 77 * 2 ^ 8) + (crc8 (bitsMsb 24 (5 * 2 ^ 18 + 77))).setWidth 32
    let s := lighting { lit with lamp := some c } 0 []
    let f := lighting { lit with flashAt := some (9, 0x100000005#64) } 0 []
    s.light.lamp = some c ∧ c.sent = true ∧ c.frame.toNat / 2 ^ 26 ≠ 63 ∧ (0xFC000001#32 : BitVec 32).toNat / 2 ^ 26 = 63 ∧
    (r ≠ 0xFFFFFFFF#32 ∧ (crc8 (bitsMsb 24 (r.toNat / 256))).toNat = r.toNat % 256 ∧ r.toNat / 2 ^ 26 = c.frame.toNat / 2 ^ 26) ∧
    c.attempts ≤ s.conf cLampRetries ∧ s.conf cLampRetries < 3 ∧ f.light.flashAt = some (9, 0x100000005#64) ∧
    (f.elapse 3).due 0x100000005#64 = true ∧ (f.elapse 3).lampOn = true ∧ f.light.flashOnBus = false ∧ f.light.lamp = none ∧
    (lighting { lit with flashOnBus := true, lamp := some { c with sent := false } } 0 []).light.flashAt = none := by decide +kernel

/-! ### Witnesses: twin operation -/

/-- A paired unit whose lease of term 5 is valid, in a role. -/
def leased (r : Role) : State :=
  let s := inRole r (paired [])
  { s with twin := { s.twin with lease := some ⟨5#32, 0x0FFFFFC18#64⟩, partner := some ⟨1#8, 7#32, true, 2#8, 99#64⟩, partnerUp := true } }

/-- A lease message of a class for a node: a term, a word and the device's own serial. -/
def leaseFrame (cls node term word : Nat) : CanFrame := ⟨true, true, true, BitVec.ofNat 29 (cls * 2 ^ 24 + node * 256 + 254),
  (leBytes 4 term ++ leBytes 4 word) ++ (leBytes 8 Config.serial.toNat ++ List.replicate 48 0#8)⟩

theorem leaseFrame_serial (cls node term word : Nat) :
    BitVec.ofNat 64 (leAt (leaseFrame cls node term word).data 8 8) = Config.serial ∧
    (leaseFrame cls node term word).data.length = 64 := by
  refine ⟨?_, by simp [leaseFrame]⟩
  rw [leaseFrame, leAt_append _ _ _ 8 8 (by simp) (by simp), leNat_leBytes, Nat.mod_eq_of_lt (by
    simpa using Config.serial.isLt), BitVec.ofNat_toNat, BitVec.setWidth_eq]

/-- The frames of class 0 and 1 that an own or another node gets, and their terms and lease times. -/
theorem witness_LeaseGrantsAndFences_frames : let s := leased .mainmast
    (∀ cls ∈ [0, 1], ∀ node ∈ [127, 3],
      let f := leaseFrame cls node 7 50000
      f.extended = true ∧ f.fd = true ∧ f.brs = true ∧ f.id.toNat / 2 ^ 24 = cls ∧ f.id.toNat % 256 = 254 ∧
      f.id.toNat / 256 % 256 = node) ∧
    s.ownNode = 127 ∧ (∀ term ∈ [3, 5, 7], leAt (leaseFrame 0 127 term 50000).data 0 4 = term) ∧
    (∀ us ∈ [2, 3, 49999, 50000], leAt (leaseFrame 0 127 7 us).data 4 4 = us) ∧ leAt (leaseFrame 1 127 7 2).data 4 1 = 2 ∧
    leAt (leaseFrame 1 127 7 3).data 4 1 = 3 ∧ s.conf cLeaseTime = 50000 := by decide +kernel

theorem witness_LeaseGrantsAndFences : let s := leased .mainmast
    let m := leased .mizzen
    s.paired = true ∧ s.sys.dev ≠ .powered ∧ s.sys.dev ≠ .boot ∧ s.sys.dev ≠ .fault ∧
    (BitVec.ofNat 32 3).toNat < s.twin.highest.toNat ∧ s.twin.highest = 5#32 ∧ s.twin.highest.toNat < (BitVec.ofNat 32 7).toNat ∧
    s.twin.lease = some ⟨5#32, 0x0FFFFFC18#64⟩ ∧
    ((s.elapse 3).tb.c - 0x0FFFFFC18#64).toNat < s.conf cLeaseTime * 1024000 ∧ m.sys.role ≠ .mainmast ∧ s.sys.role = .mainmast ∧
    m.twin.waiting = none ∧ (leased .fenced).sys.role = .fenced ∧ m.twin.partnerUp = true ∧
    m.twin.partner = some ⟨1#8, 7#32, true, 2#8, 99#64⟩ ∧ m.sys.role = .mizzen := by decide +kernel

theorem witness_LeaseGrantsAndFences_times : let s := leased .mainmast
    let w : State := { s with twin := { s.twin with waiting := some 6#32, waitC := 0x0FFFFFFF6#64, lease := none } }
    let m := leased .mizzen
    let old : State := { m with tb := { m.tb with up := 3000 * 10800000000000 } }
    w.twin.waiting = some 6#32 ∧ ((w.elapse 10).tb.c - w.twin.waitC).toNat ≤ 1024000000 ∧
    1024000000 < ((w.elapse 8000000).tb.c - w.twin.waitC).toNat ∧
    s.twin.highest.toNat ≤ (6#32 : BitVec 32).toNat ∧ (4#32 : BitVec 32).toNat < s.twin.highest.toNat ∧
    s.conf cLeaseTime * 1024000 ≤ ((s.elapse 8000000000).tb.c - 0x0FFFFFC18#64).toNat ∧
    m.sys.role = .mizzen ∧ m.conf cDrillWarn ≠ 0 ∧ old.conf cDrillWarn * 86400 < (old.elapse 3).takeoverAge ∧
    old.twin.overdueDay ≠ (old.elapse 3).tb.up / 10800000000000 + 1 := by decide +kernel

/-- A paired MIZZEN that follows its partner. -/
def following : State :=
  let s := leased .mizzen
  { s with
    twin := { s.twin with following := true, deciding := false, seqs := [(4000, 50#64)], takeoverAt := some 4096 }
    trig := { s.trig with records := [(9, aRecord 9)] }
    hist := { s.hist with
      nextSeal := some 4010, nextClose := 4001, nextIndex := 4001, newest := 4000, firstSlice := 3000
      index := [(4000, ⟨4000, 0#16, 0, 0, false, false, false, 0, 0, 77#64, 0⟩)] }
    ports := [(7, { aPort with st := .active, timing := { aPort.timing with waiting := some 512 }, held := [⟨0x0FFFFFF9C#64, 512, [0#64]⟩] })] }

/-- The bytes of a message of the stay link of number 9. -/
def stayWire (m : StayMsg) : List Byte := stayHeader m.type m.payload.length 9#32 ++ m.payload

/-- One message of each type that is read back as a value. -/
def someMsgs : List StayMsg :=
  [.slice 4001 1 [⟨true, 3, 5, 7#32, 1#64, 2#64, 0#64⟩] [⟨3, 1, 2, 7#32, 1#64, 2#64⟩], .digest 4000 77#64 50#64, .digest 4001 1#64 2#64,
   .delay 7 512 (-5), .start 7 4100, .commit 5000 [(cAcceptPast.key, 300)],
   .arm 3 5#64 ⟨2#8, 0x100000000#64, 5000#64, 100#32, 3#32, 1#8, 3#8, false⟩ .accepted, .image 2 [1#8, 2#8], .takeover 7#32 5000,
   .hello ⟨1#8, 7#32, true, 2#8, 99#64⟩, .join .request, .join (.config 4096 5#64 [(cAcceptPast.key, 300)] [[1#8], [], [2#8], []]),
   .join (.state ⟨5#64, [⟨3, 6#32, 1, some ⟨1#64, 2#64, 5#32, true⟩⟩], [(1, 2)], [(2, some 5#64, [(6#64, 9)])],
     [⟨none, 3, 6#32, 0, 1, 4000, 1#64, 2#64, 5, some 5⟩], [(1, 2)]⟩), .ack 9#32]

/-- Each of them arrives from the stream, and what follows is left. -/
theorem witness_FollowersAndTakeover_messages : ∀ m ∈ someMsgs,
    let b := stayWire m ++ [1#8, 0#8]
    firstMsg b.length b = some (⟨m.type, 9#32, m.payload⟩, [1#8, 0#8]) ∧ stayMsgOf m.type m.payload = some m := by decide +kernel

theorem witness_FollowersAndTakeover : let s := following
    let left : State := { s with twin := { s.twin with left := true } }
    let off : State := { s with hist := { s.hist with nextSeal := none } }
    let idle := { aPort with timing := { aPort.timing with waiting := none, da := none, f := 700 } }
    s.twin.takeoverAt = some 4096 ∧ sliceLe 4096 (s.elapse 3).slice = true ∧ s.sys.role = .mizzen ∧ s.sys.dev ≠ .fault ∧
    s.trig.records = [(9, aRecord 9)] ∧ sliceLt (aRecord 9).closing 4096 = true ∧ (aRecord 9).hollow = false ∧
    ({ aRecord 9 with hollow := true } : Record).hollow = true ∧ s.paired = true ∧ s.twin.following = true ∧ s.twin.left = false ∧
    s.twin.partnerUp = true ∧ sliceLt 4001 s.hist.nextClose = false ∧ off.hist.nextSeal = none ∧ s.indexed 4001 = none ∧
    s.indexed 4000 = some ⟨4000, 0#16, 0, 0, false, false, false, 0, 0, 77#64, 0⟩ ∧ s.twin.joining = false ∧
    Tab.look s.twin.seqs 4000 = some 50#64 ∧ (s.port 7).timing.waiting = some 512 ∧ (s.port 6).timing.waiting = none ∧
    (idle.timing.waiting = none ∧ 512 < idle.timing.f ∧ idle.timing.da = none ∧ idle.timing.missing = false) ∧
    ({ s with ports := [(7, idle)] } : State).port 7 = idle ∧
    (running []).paired = false ∧ s.stayUp = true ∧ left.twin.left = true ∧ (s.port 6).timing.missing = false ∧
    s.twin.highest.toNat ≤ (7#32 : BitVec 32).toNat ∧ (leased .mainmast).stayUp = true := by decide +kernel

/-- HELLO leaves on lane 1. -/
theorem witness_FollowersAndTakeover_hello :
    let s : State := { leased .mainmast with stay := [(1, { aPort with st := .active })] }
    s.twin.left = false ∧ s.stayUp = true ∧ s.twin.txQueue = [] ∧ s.twin.unacked.length < 256 ∧ s.nextLane = some 1 ∧
    (running []).stayUp = false := by decide +kernel

theorem witness_FollowersAndTakeover_waits : let s := following
    let d : State := { s with hist := { s.hist with seals := [(4001, sliceStart 4033)] } }
    (s.port 7).held = [⟨0x0FFFFFF9C#64, 512, [0#64]⟩] ∧
    notAfter (0x0FFFFFF9C#64 + BitVec.ofNat 64 (s.conf cMizzenWait * 2 ^ 20)) (s.elapse 10000000).now = true ∧
    (d.elapse 10000000).closeDue d.hist.nextClose = true ∧ Tab.look d.hist.decided 4001 = none ∧ Tab.look d.twin.slices 4001 = none ∧
    notAfter (d.closeTime 4001 + BitVec.ofNat 64 (d.conf cMizzenWait * 2 ^ 20)) (d.elapse 10000000).now = true := by decide +kernel

theorem witness_TwinMessagesAct : let s := following
    let m := leased .mainmast
    let j : State := { s with twin := { s.twin with joining := true, joinAt := some 4096 } }
    let f : StayFrame := ⟨5#10, 0x0FFB3B4C0#64, [1#8]⟩
    let w : State := { m with twin := { m.twin with unacked := [f], lastRx := 0x0FFFFFF00#64 }, stay := [(1, { aPort with st := .active })] }
    s.paired = true ∧ s.twin.following = true ∧ s.twin.left = false ∧ s.twin.partnerUp = true ∧ isLocalKey cAcceptPast.key = false ∧
    m.forwards = true ∧ m.stayUp = true ∧ (m.elapse 0).slice % 1024 = 0 ∧ (m.elapse 10000000).slice % 1024 ≠ 0 ∧
    j.twin.joining = true ∧ j.stayUp = true ∧ j.twin.joinAt = some 4096 ∧ sliceLe 4096 (j.elapse 3).slice = true ∧
    j.hist.firstRun ≠ 4096 ∧ m.twin.joining = false ∧ m.twin.joinState = false ∧
    ({ m with twin := { m.twin with joinAt := some 4096 } } : State).twin.joinAt = some 4096 ∧ w.twin.unacked = f :: [] ∧
    4096000 ≤ ((w.elapse 3).tb.c - f.sentC).toNat ∧ w.stayUp = true ∧ w.nextLane ≠ none ∧ m.nextLane = none ∧
    w.conf cStayTimeout * 1024000 < ((w.elapse 2048000000).tb.c - w.twin.lastRx).toNat ∧ w.twin.txQueue = [] ∧
    firstMsg m.twin.rxBytes.length m.twin.rxBytes = none := by decide +kernel

theorem witness_TwinMessagesAct_records : let snap : Snapshot := ⟨3, 5#32, 4096, 0#64, 20, 30, 8, [9], []⟩
    let h : HeldResponse := ⟨9#32, ⟨.canA, 130, [], 0#64⟩, [1#8, 2#8]⟩
    let part : List Byte := stayHeader 8 600 9#32 ++ List.replicate 40 3#8
    following.trig.records = [(9, aRecord 9)] ∧ (aRecord 9).seq.toNat ∈ snap.done ∧ h.num = 9#32 ∧ h.request.transport = .canA ∧
    leAt (incomplete part.length part) 0 1 = 8 ∧ leAt (incomplete 0 []) 0 1 ≠ 8 := by decide +kernel

/-- The body of a snapshot's payload, and the payload with a CRC that is right or wrong by one. -/
def snapBody : List Byte := List.replicate 576 0#8

theorem snapBody_length : snapBody.length = 576 := List.length_replicate

def snapPayload (wrong : Nat) : List Byte := snapBody ++ leBytes 4 ((crc32c snapBody).toNat + wrong)

theorem witness_TwinMessagesAct_snapshot (wrong : Nat) (h : wrong < 2) :
    580 ≤ (snapPayload wrong).length ∧
    (leAt (snapPayload wrong) ((snapPayload wrong).length - 4) 4 =
      (crc32c ((snapPayload wrong).take ((snapPayload wrong).length - 4))).toNat ↔ wrong = 0) := by
  have hl : (snapPayload wrong).length = 580 := by rw [snapPayload, List.length_append, snapBody_length, leBytes_length]
  have ht : (snapPayload wrong).take 576 = snapBody := by rw [snapPayload, ← snapBody_length, List.take_left']; rfl
  have hv : leAt (snapPayload wrong) 576 4 = ((crc32c snapBody).toNat + wrong) % 256 ^ 4 := by
    rw [snapPayload, ← List.append_nil (leBytes 4 _), leAt_append _ _ _ 576 4 snapBody_length (leBytes_length ..), leNat_leBytes]
  rw [hl, show 580 - 4 = 576 from rfl, hv, ht]
  have := (crc32c snapBody).isLt
  refine ⟨Nat.le_refl _, ?_⟩
  omega

/-- Frames of a stay lane in use: sound ones of kinds 0 and 1, in order or not, with the acknowledgement of frame 5 or none. -/
theorem witness_TwinMessagesAct_frames :
    (∀ k ∈ [0, 1], ∀ w ∈ [zeros, BitVec.ofNat 64 (5 * 2 ^ 54 + 2 ^ 53) :: List.replicate 31 0#64], ∃ wire,
      frameSound (heard aPort.rx wire) = true ∧ (heard aPort.rx wire).kind = BitVec.ofNat 5 k ∧
      (heard aPort.rx wire).seq = 5#10 ∧ (heard aPort.rx wire).words = w) ∧
    wbits (BitVec.ofNat 64 (5 * 2 ^ 54 + 2 ^ 53)) 53 1 = 1 ∧ wbits (BitVec.ofNat 64 (5 * 2 ^ 54 + 2 ^ 53)) 54 10 = 5 ∧
    frameSound (heard aPort.rx []) = false := by
  refine ⟨fun k hk w hw => ?_, by decide +kernel, by decide +kernel, heard_bad.2.2.1⟩
  obtain ⟨wire, h⟩ := heard_any k w
  have hl : w.length = 32 := by fin_cases hw <;> rfl
  have hk' : k < 32 := by fin_cases hk <;> decide
  refine ⟨wire, ?_⟩
  rw [h, frameOf_frameBits 5 false k w hk' hl]
  exact ⟨by simp [frameSound, frameMarked, Nat.mod_eq_of_lt hk'], rfl, rfl, rfl⟩

/-! ### Worked examples: the control session -/

/-- The unit of the worked commit of 10_control_sessions.md: session 2 on the mailbox expects request 0x0041, which holds `msg`. -/
def controlled (number : BitVec 16) (msg : List Byte) : State :=
  let s := running []
  { s with
    tb := { s.tb with c := sliceStart 1193174 }
    cfg := { s.cfg with number := 17#64 }
    ctl := { s.ctl with
      seq := 0x9C3F#32, sessions := [(2, ⟨.mailbox, 0, 77#32, number, false, 0, 15, 3#16, [], [], none, sliceStart 1193174⟩)], reqTail := 1
      posted := [sliceStart 1193174 - 5#64], slots := [(0, msg)] }
    host := { s.host with gen := 4, busMaster := true, d0 := true } }

/-- The state after the batch of a command that answers a next state. -/
def batched (s : State) : State := match exec (.requestBatch 0) s with | .next t => t | _ => s

theorem test_worked_write :
    let t := batched (controlled 0x41#16 [4, 2, 0x41, 0, 0, 0, 0, 0, 0, 0x24, 0, 0, 1, 0, 0, 0, 0xC8])
    Tab.look t.ctl.slots 16 = some [0x44, 2, 0x41, 0, 0x40, 0x9C, 0, 0, 0, 0x24, 0, 1, 1, 0, 0, 0, 0x80] ∧
    t.ctl.clampTotal = 1#32 ∧ Tab.look t.ctl.clamps 0 = some ⟨0x9C40#32, 0x2400, 0, 2, 200#64, 128#64⟩ ∧
    Tab.look t.cfg.staging cSealDelay.key = some 128 := by decide +kernel

theorem test_worked_commit :
    let t := batched (controlled 0x42#16 [4, 2, 0x42, 0, 0, 0, 0, 0, 0x31, 0x10, 0, 0, 8, 0, 0, 0, 0xAB, 0x89, 0x79, 0xBF, 0x23, 1, 0, 0])
    (Tab.look t.ctl.slots 16).map (fun r => List.drop 16 r) = some (leBytes 8 1195000 ++ leBytes 8 18) ∧
    t.cfg.pending.map (fun p => p.1) = some 1195000 := by decide +kernel

/-- Session 1 of the worked addressing of 11_object_dictionary.md, on CAN FD bus A, with a READ of port 37 waiting. -/
def onCan (number sub : Nat) : State :=
  let s := running []
  { s with
    ctl := { s.ctl with
      seq := BitVec.ofNat 32 (0xA1AA + number)
      sessions := [(1, ⟨.canA, 130, 77#32, BitVec.ofNat 16 number, false, 0, 0, 0#16, [], [], none, 0x100000000#64⟩)]
      canA := [⟨.canA, 130, leBytes 1 3 ++ leBytes 1 1 ++ leBytes 2 number ++ leBytes 4 0 ++ leBytes 2 0x4025 ++ leBytes 1 sub ++ List.replicate 53 0, 0#64⟩] }
    stat := [(kPortHorizonPast 37, 12)] }

theorem test_worked_reads :
    ((batched (onCan 7 49)).out.map (fun o => match o with | .can .a _ d => d.take 20 | _ => [])) =
      [[0x43, 1, 7, 0, 0xB2, 0xA1, 0, 0, 0x25, 0x40, 0x31, 0, 4, 0, 0, 0, 0x0C, 0, 0, 0]] ∧
    ((batched (onCan 8 12)).out.map (fun o => match o with | .can .a _ d => d.take 16 | _ => [])) =
      [[0x43, 1, 8, 0, 0xB3, 0xA1, 0, 0, 0x25, 0x40, 0x0C, 0x11, 0, 0, 0, 0]] ∧
    ((batched (onCan 9 4)).out.map (fun o => match o with | .can .a _ d => d.take 24 | _ => [])) =
      [[0x43, 1, 9, 0, 0xB4, 0xA1, 0, 0, 0x25, 0x40, 4, 0x12, 8, 0, 0, 0, 0, 0, 0, 0, 0, 0, 0, 0]] := by decide +kernel

/-! ### Worked examples: roundings, timing inputs, delivery -/

/-- The delay of 04_port_timing.md and the alternated result of 14_monitor_front_end.md. -/
theorem test_worked_roundings : roundEven (4916165 - 960) 2 = 2457602 ∧ roundEven 2457602 16 = 153600 ∧
    roundEven (1611413 - (-1609813)) 2 = 1610613 := by decide +kernel

/-- Step 3 of the gated intervals of 13_interval_timer.md. -/
theorem test_worked_interval :
    let b := 0x0000012345600000
    let edge := fun (k : EdgeKind) (te : Nat) => (⟨k, 1, BitVec.ofNat 64 (b + te), false, false, 9#8, false⟩ : Edge)
    let s : State := { running [((cTinMode 3).key, 2), ((cTinRoute 3).key, 2), ((cTinIntervalMax 3).key, 102400), ((cTinTriggerClass 3).key, 9)] with
      hist := { History.empty with nextSeal := some 1193030, nextClose := 1193025, nextIndex := 1193020, firstSlice := 1193000 }
      tb := { Timebase.empty with c := BitVec.ofNat 64 (b + 1261568) }
      tins := [(3, { Tin.empty with edges := [edge .stop 237316], pending := some ⟨edge .start 150000, false, 2048000⟩ })] }
    let t := match exec (.tinEdgeHandled 0 3) s with | .next t => t | _ => s
    leBytes 8 (t.count (kTinLastResult0 3)) ++ leBytes 8 (t.count (kTinLastResult1 3)) =
      [0xF0, 0x49, 0x62, 0x45, 0x23, 1, 0, 0, 0x14, 0x55, 1, 0, 0, 0, 0, 0] ∧ (t.tin 3).pending = none ∧
    t.trig.bound.map (fun e => (e.1, e.2.map (fun x => (x.cls, x.time)))) = [(1193046, [(9, 0x0000012345639F04#64)])] := by decide +kernel


end Sys2Proof.Tests
end

section
/-! PROOFS. The line code (R75): the receiver follows the transmitter, a run of 12 is a stuff error, and two receivers of the
same wire come to the same state. -/

namespace Sys2Proof.Machine

/-! ### The shift register -/

theorem shiftIn_eq_ofNat (s : BitVec 58) (x : Bool) : shiftIn s x = BitVec.ofNat 58 (2 * s.toNat + bnat x) := by
  have double : s <<< 1 = BitVec.ofNat 58 (2 * s.toNat) := by
    apply BitVec.eq_of_toNat_eq
    simp [Nat.shiftLeft_eq, Nat.mul_comm]
  have disjoint : s <<< 1 &&& BitVec.ofNat 58 (bnat x) = 0#58 := by
    cases x
    · simp [bnat]
    · ext i hi
      cases i <;> simp [bnat, BitVec.getElem_one]
  rw [shiftIn, ← BitVec.add_eq_or_of_and_eq_zero _ _ disjoint, double, ← BitVec.ofNat_add]

theorem getLsbD_shiftIn_zero (s : BitVec 58) (x : Bool) : (shiftIn s x).getLsbD 0 = x := by
  cases x <;> simp [shiftIn, bnat]

theorem getLsbD_shiftIn_succ (s : BitVec 58) (x : Bool) {i : Nat} (hi : i + 1 < 58) :
    (shiftIn s x).getLsbD (i + 1) = s.getLsbD i := by
  have below : i < 58 := by omega
  cases x <;> simp [shiftIn, bnat, hi, below]

/-! ### One wire bit into the receiver, a rule per case -/

theorem LineRx.step_data {r : LineRx} (h : r.run ≤ 10) (w : Bool) :
    r.step w = (⟨shiftIn r.s w, w, if w = r.last then r.run + 1 else 1⟩, some (scramble r.s w), false) := by
  rw [LineRx.step, if_neg (by omega), if_neg (by omega)]

theorem LineRx.step_stuffBit {r : LineRx} {w : Bool} (h : r.run = 11) (hw : w ≠ r.last) :
    r.step w = (⟨r.s, w, 1⟩, none, false) := by
  rw [LineRx.step, if_neg (by omega), if_pos h, if_neg hw]

theorem LineRx.step_stuffError {r : LineRx} (h : r.run = 11) : r.step r.last = (⟨r.s, r.last, 12⟩, none, true) := by
  rw [LineRx.step, if_neg (by omega), if_pos h, if_pos rfl]

theorem LineRx.step_discarded {r : LineRx} (h : 12 ≤ r.run) :
    r.step r.last = (⟨r.s, r.last, r.run + 1⟩, none, false) := by
  rw [LineRx.step, if_pos h, if_pos rfl]

theorem LineRx.step_errorEnd {r : LineRx} {w : Bool} (h : 12 ≤ r.run) (hw : w ≠ r.last) :
    r.step w = (⟨shiftIn r.s w, w, 1⟩, some (scramble r.s w), false) := by
  rw [LineRx.step, if_pos h, if_neg hw]

/-! ### Sequences of wire bits -/

theorem LineRx.receive_append (r : LineRx) (u v : List Bool) :
    r.receive (u ++ v) = (((r.receive u).1.receive v).1, (r.receive u).2.1 ++ ((r.receive u).1.receive v).2.1,
      (r.receive u).2.2 + ((r.receive u).1.receive v).2.2) := by
  induction u generalizing r with
  | nil => simp [LineRx.receive]
  | cons w u ih => simp [LineRx.receive, ih, Nat.add_right_comm]

/-! ### The receiver follows the transmitter -/

/-- The receiver in the state of a transmitter. -/
def LineTx.peer (t : LineTx) : LineRx := ⟨t.s, t.last, t.run⟩

/-- The run on the wire once the scrambled bit `x` is sent. -/
def LineTx.runAfter (t : LineTx) (x : Bool) : Nat := if x = t.last then t.run + 1 else 1

theorem LineTx.runAfter_le (t : LineTx) (x : Bool) (h : t.run ≤ 10) : t.runAfter x ≤ 11 := by
  unfold LineTx.runAfter
  split <;> omega

theorem LineTx.step_stuffed {t : LineTx} {d : Bool} (h : t.runAfter (scramble t.s d) = 11) :
    t.step d = (⟨shiftIn t.s (scramble t.s d), !scramble t.s d, 1⟩, [scramble t.s d, !scramble t.s d]) :=
  if_pos h

theorem LineTx.step_unstuffed {t : LineTx} {d : Bool} (h : t.runAfter (scramble t.s d) ≠ 11) :
    t.step d = (⟨shiftIn t.s (scramble t.s d), scramble t.s d, t.runAfter (scramble t.s d)⟩, [scramble t.s d]) :=
  if_neg h

theorem LineTx.step_run_le (t : LineTx) (d : Bool) (h : t.run ≤ 10) : (t.step d).1.run ≤ 10 := by
  by_cases stuffed : t.runAfter (scramble t.s d) = 11
  · simp [LineTx.step_stuffed stuffed]
  · have bound := t.runAfter_le (scramble t.s d) h
    rw [LineTx.step_unstuffed stuffed]
    dsimp only
    omega

theorem LineTx.peer_step (t : LineTx) (d : Bool) (h : t.run ≤ 10) :
    t.peer.step (scramble t.s d) =
      (⟨shiftIn t.s (scramble t.s d), scramble t.s d, t.runAfter (scramble t.s d)⟩, some d, false) := by
  rw [LineRx.step_data (r := t.peer) h, LineTx.peer, scramble_scramble, LineTx.runAfter]

theorem LineTx.peer_receive_step (t : LineTx) (d : Bool) (h : t.run ≤ 10) :
    t.peer.receive (t.step d).2 = ((t.step d).1.peer, [d], 0) := by
  by_cases stuffed : t.runAfter (scramble t.s d) = 11
  · have removed := LineRx.step_stuffBit
      (r := ⟨shiftIn t.s (scramble t.s d), scramble t.s d, t.runAfter (scramble t.s d)⟩)
      (w := !scramble t.s d) stuffed (by simp)
    simp only [LineTx.step_stuffed stuffed, LineRx.receive, t.peer_step d h, removed]
    rfl
  · simp only [LineTx.step_unstuffed stuffed, LineRx.receive, t.peer_step d h]
    rfl

theorem LineTx.send_run_le (t : LineTx) (data : List Bool) (h : t.run ≤ 10) : (t.send data).1.run ≤ 10 := by
  induction data generalizing t with
  | nil => exact h
  | cons d ds ih => exact ih _ (t.step_run_le d h)

theorem LineTx.peer_receive_send (t : LineTx) (data : List Bool) (h : t.run ≤ 10) :
    t.peer.receive (t.send data).2 = ((t.send data).1.peer, data, 0) := by
  induction data generalizing t with
  | nil => rfl
  | cons d ds ih =>
    simp [LineTx.send, LineRx.receive_append, t.peer_receive_step d h, ih _ (t.step_run_le d h)]

theorem LineTx.send_singleton (t : LineTx) (d : Bool) : t.send [d] = t.step d := by
  simp [LineTx.send]

/-! ### A run of 12 is a stuff error -/

theorem LineRx.step_run_le {r : LineRx} {w : Bool} (h : r.run ≤ 11) (noError : (r.step w).2.2 = false) :
    (r.step w).1.run ≤ 11 := by
  by_cases full : r.run = 11
  · by_cases hw : w = r.last
    · subst hw; simp [LineRx.step_stuffError full] at noError
    · simp [LineRx.step_stuffBit full hw]
  · rw [LineRx.step_data (by omega)]
    dsimp only
    split <;> omega

/-- A receiver that is not in error leaves that condition only by a stuff error. -/
theorem LineRx.receive_run_le {r : LineRx} {wire : List Bool} (h : r.run ≤ 11) (noError : (r.receive wire).2.2 = 0) :
    (r.receive wire).1.run ≤ 11 := by
  induction wire generalizing r with
  | nil => exact h
  | cons w ws ih =>
    simp only [LineRx.receive, Nat.add_eq_zero_iff] at noError
    obtain ⟨rest, first⟩ := noError
    exact ih (LineRx.step_run_le h (by simpa [bnat] using first)) rest

theorem LineRx.receive_replicate_last_error {r : LineRx} {k : Nat} (h : r.run ≤ 11) (hk : 12 ≤ r.run + k) :
    0 < (r.receive (List.replicate k r.last)).2.2 := by
  induction k generalizing r with
  | zero => omega
  | succ k ih =>
    rw [List.replicate_succ, LineRx.receive]
    by_cases full : r.run = 11
    · simp [LineRx.step_stuffError full, bnat]
    · have longer := ih (r := ⟨shiftIn r.s r.last, r.last, r.run + 1⟩) (by dsimp only; omega) (by dsimp only; omega)
      simpa [LineRx.step_data (show r.run ≤ 10 by omega), bnat] using longer

theorem LineRx.step_of_ne_last {r : LineRx} {w : Bool} (h : r.run ≤ 11) (hw : w ≠ r.last) :
    (r.step w).1.last = w ∧ (r.step w).1.run = 1 := by
  by_cases full : r.run = 11
  · simp [LineRx.step_stuffBit full hw]
  · simp [LineRx.step_data (show r.run ≤ 10 by omega), hw]

theorem LineRx.receive_twelve_equal_error {r : LineRx} (h : r.run ≤ 11) (b : Bool) :
    0 < (r.receive (List.replicate 12 b)).2.2 := by
  by_cases hb : b = r.last
  · subst hb; exact LineRx.receive_replicate_last_error h (by omega)
  · obtain ⟨last, run⟩ := LineRx.step_of_ne_last h hb
    have rest := LineRx.receive_replicate_last_error (r := (r.step b).1) (k := 11) (by omega) (by omega)
    rw [last] at rest
    rw [List.replicate_succ, LineRx.receive]
    exact Nat.add_pos_left rest _

/-- What a receiver takes without a stuff error has no run of 12. -/
theorem LineRx.no_twelve_equal {r : LineRx} {wire : List Bool} (h : r.run ≤ 11) (noError : (r.receive wire).2.2 = 0)
    (i : Nat) (b : Bool) : (wire.drop i).take 12 ≠ List.replicate 12 b := by
  intro equal
  have cut : wire = wire.take i ++ (List.replicate 12 b ++ (wire.drop i).drop 12) := by
    rw [← equal, List.take_append_drop, List.take_append_drop]
  rw [cut, LineRx.receive_append, LineRx.receive_append] at noError
  simp only [Nat.add_eq_zero_iff] at noError
  obtain ⟨before, run, -⟩ := noError
  exact (LineRx.receive_twelve_equal_error (LineRx.receive_run_le h before) b).ne' run

/-! ### The end of a stuff error -/

theorem LineRx.receive_discarded (r : LineRx) (h : 12 ≤ r.run) (n : Nat) :
    r.receive (List.replicate n r.last) = (⟨r.s, r.last, r.run + n⟩, [], 0) := by
  induction n generalizing r with
  | zero => rfl
  | succ n ih =>
    have rest := ih ⟨r.s, r.last, r.run + 1⟩ (by dsimp only; omega)
    dsimp only at rest
    simp [List.replicate_succ, LineRx.receive, LineRx.step_discarded h, rest, bnat, Nat.add_assoc, Nat.add_comm 1]

theorem LineRx.receive_errorRun (r : LineRx) (h : r.run = 11) (n : Nat) :
    r.receive (List.replicate (n + 1) r.last ++ [!r.last]) =
      (⟨shiftIn r.s (!r.last), !r.last, 1⟩, [scramble r.s (!r.last)], 1) := by
  have run := LineRx.receive_discarded ⟨r.s, r.last, 12⟩ (by simp) n
  have other := LineRx.step_errorEnd (r := ⟨r.s, r.last, 12 + n⟩) (w := !r.last) (by simp) (by simp)
  dsimp only at run other
  simp [LineRx.receive_append, List.replicate_succ, LineRx.receive, LineRx.step_stuffError h, run, other, bnat]

/-! ### Two receivers of the same wire -/

/-- Two receivers whose line states are equal and whose latest `k` scrambled bits agree. -/
structure LineRx.InStep (k : Nat) (a b : LineRx) : Prop where
  last : a.last = b.last
  run : a.run = b.run
  bits : ∀ i < k, i < 58 → a.s.getLsbD i = b.s.getLsbD i

theorem LineRx.InStep.zero {a b : LineRx} (hl : a.last = b.last) (hr : a.run = b.run) : InStep 0 a b :=
  ⟨hl, hr, fun _ h => absurd h (Nat.not_lt_zero _)⟩

theorem LineRx.InStep.eq {k : Nat} {a b : LineRx} (h : InStep k a b) (hk : 58 ≤ k) : a = b := by
  have register : a.s = b.s := BitVec.eq_of_getLsbD_eq fun i hi => h.bits i (by omega) hi
  cases a
  cases b
  rw [LineRx.mk.injEq]
  exact ⟨register, h.last, h.run⟩

theorem LineRx.InStep.deliver {k : Nat} {a b : LineRx} (h : InStep k a b) (w : Bool) (n : Nat) :
    InStep (k + 1) ⟨shiftIn a.s w, w, n⟩ ⟨shiftIn b.s w, w, n⟩ where
  last := rfl
  run := rfl
  bits
    | 0, _, _ => by rw [getLsbD_shiftIn_zero, getLsbD_shiftIn_zero]
    | i + 1, hk, hi => by
      rw [getLsbD_shiftIn_succ _ _ hi, getLsbD_shiftIn_succ _ _ hi]
      exact h.bits i (by omega) (by omega)

/-- A wire bit keeps two receivers in step; where it is delivered, one more scrambled bit agrees. -/
theorem LineRx.InStep.step {k : Nat} {a b : LineRx} (h : InStep k a b) (w : Bool) :
    InStep (k + (a.step w).2.1.toList.length) (a.step w).1 (b.step w).1 := by
  have ⟨last, run, bits⟩ := h
  rcases Nat.lt_trichotomy a.run 11 with low | full | error
  · rw [LineRx.step_data (by omega), LineRx.step_data (by omega), last, run]
    exact h.deliver w _
  · by_cases hw : w = a.last
    · subst hw
      rw [LineRx.step_stuffError full, last, LineRx.step_stuffError (by omega)]
      exact ⟨rfl, rfl, bits⟩
    · rw [LineRx.step_stuffBit full hw, LineRx.step_stuffBit (by omega) (last ▸ hw)]
      exact ⟨rfl, rfl, bits⟩
  · by_cases hw : w = a.last
    · subst hw
      rw [LineRx.step_discarded error, last, LineRx.step_discarded (by omega), run]
      exact ⟨rfl, rfl, bits⟩
    · rw [LineRx.step_errorEnd error hw, LineRx.step_errorEnd (by omega) (last ▸ hw)]
      exact h.deliver w 1

theorem LineRx.InStep.receive {k : Nat} {a b : LineRx} (h : InStep k a b) (wire : List Bool) :
    InStep (k + (a.receive wire).2.1.length) (a.receive wire).1 (b.receive wire).1 := by
  induction wire generalizing k a b with
  | nil => exact h
  | cons w ws ih =>
    simp only [LineRx.receive, List.length_append, ← Nat.add_assoc]
    exact ih (h.step w)

/-! ### The statement -/

/-- Settles O27: the receiver in the transmitter's state follows it bit by bit; a run of 12 would be a stuff error, and there is
none; and each delivered bit makes one more bit of two receivers' registers equal. -/
theorem receiverRecoversLineCode : Obligations.ReceiverRecoversLineCode := by
  unfold Obligations.ReceiverRecoversLineCode
  refine ⟨fun tx data h => ?_, fun tx d => ?_, fun r w h => ?_, fun r n h => ⟨?_, ?_⟩, fun a b wire hl hr h58 => ?_⟩
  · have recovered := tx.peer_receive_send data h
    have noRun := LineRx.no_twelve_equal (r := tx.peer) (Nat.le_succ_of_le h) (by rw [recovered])
    exact ⟨recovered, tx.send_run_le data h, fun i _ => not_or.mpr ⟨noRun i true, noRun i false⟩⟩
  · simp only [← shiftIn_eq_ofNat]
    exact tx.send_singleton d
  · simp [LineRx.receive, LineRx.step_data h, shiftIn_eq_ofNat, scramble, bnat]
  · simp [LineRx.receive, LineRx.step_stuffBit h, bnat]
  · rw [r.receive_errorRun h n, shiftIn_eq_ofNat, scramble]
  · exact ((LineRx.InStep.zero hl hr).receive wire).eq (by omega)

end Sys2Proof.Machine
end

section
/-! PROOFS. The start of a packet (R190, R194, R200): the registers, the packet window, and the rest of the unit. -/

namespace Sys2Proof.Machine

/-! ### Writes of a list of values -/

section
variable {α : Type} [DecidableEq α] (d : α)

theorem Tab.get_setAll_outside (vs : List α) (t : Tab α) (i k : Nat) (h : k < i ∨ i + vs.length ≤ k) :
    Tab.get d (Tab.setAll d t i vs) k = Tab.get d t k := by
  induction vs generalizing t i with
  | nil => rfl
  | cons v vs ih =>
    rw [List.length_cons] at h
    rw [Tab.setAll, ih _ _ (by omega), Tab.get_set_ne _ _ _ _ _ (by omega)]

theorem Tab.get_setAll_inside {vs : List α} {j : Nat} {v : α} (h : vs[j]? = some v) (t : Tab α) (i : Nat) :
    Tab.get d (Tab.setAll d t i vs) (i + j) = v := by
  induction vs generalizing t i j with
  | nil => simp at h
  | cons w ws ih =>
    rw [Tab.setAll]
    cases j with
    | zero =>
      rw [Tab.get_setAll_outside _ _ _ _ _ (by omega), Nat.add_zero, Tab.get_set_same]
      simpa using h
    | succ j =>
      rw [show i + (j + 1) = i + 1 + j by omega]
      exact ih (by simpa using h) _ _

end

/-! ### The registers (R194) -/

@[simp] theorem startRegs_acc (c : Core) (k : Packet) (n : Nat) (j : BitVec 2) : (startRegs c k n).acc j = 0#56 :=
  Vector.getElem_replicate j.isLt

@[simp] theorem startRegs_ptr (c : Core) (k : Packet) (n : Nat) (j : BitVec 3) :
    (startRegs c k n).ptr j = if j = 0#3 then 0x7000#16 else 0#16 := by
  show ((Vector.replicate 8 0#16).set 0 0x7000#16)[j.toNat] = _
  simp [Vector.getElem_set, BitVec.toNat_eq, eq_comm]

@[simp] theorem startRegs_off (c : Core) (k : Packet) (n : Nat) (j : BitVec 3) : (startRegs c k n).off j = 1#16 :=
  Vector.getElem_replicate j.isLt

@[simp] theorem startRegs_cnt (c : Core) (k : Packet) (n : Nat) (j : BitVec 2) : (startRegs c k n).cnt j = 0#16 :=
  Vector.getElem_replicate j.isLt

/-! ### The packet that starts -/

/-- The samples of a packet as they stand in the packet window. -/
def State.packetWindow (s : State) (k : Packet) : List (BitVec 24) :=
  (s.samplesOf k).map (unpackSample (sampleLayout (s.formatOf k)).2)

theorem State.packetWindow_length (s : State) (k : Packet) : (s.packetWindow k).length = (s.samplesOf k).length :=
  List.length_map _

theorem State.packetWindow_getElem? {s : State} {k : Packet} {i v : Nat} (h : (s.samplesOf k)[i]? = some v) :
    (s.packetWindow k)[i]? = some (unpackSample (sampleLayout (s.formatOf k)).2 v) := by
  rw [State.packetWindow, List.getElem?_map, h, Option.map_some]

/-- A core at the start of packet `k` with the samples `smp`, which it takes from its queue. -/
def Core.start (c : Core) (k : Packet) (smp : List (BitVec 24)) : Core :=
  { c with
    state := .busy
    queue := c.queue.erase k
    running := some k
    budget := k.budget - k.words.length
    results := []
    regs := startRegs c k smp.length
    x := Tab.setAll 0#24 c.x 0x7000 smp
    badX := c.badX.filter (fun a => !(decide (0x7000 ≤ a) && decide (a < 0x7000 + smp.length))) }

/-- With no load under way or to come no packet waits for one (R211). -/
theorem State.startable_of_no_load {s : State} {g : Nat} (hl : (s.core g).loadFrom = none) (hp : s.pendingLoad g = none)
    (k : Packet) : s.startable g k = true := by
  simp [State.startable, hl, hp, fromSlice]

/-- On an idle core the first packet that may start does. -/
theorem exec_packetStart {dt : Nat} {g : CoreId} {s : State} {k : Packet} (idle : (s.core g.val).state = .idle)
    (first : (s.core g.val).queue.find? ((s.elapse dt).startable g.val) = some k) :
    exec (.packetStart dt g) s = .next (((s.elapse dt).setCore g.val
      ((s.core g.val).start k ((s.elapse dt).packetWindow k))).bump64 (kCoreCyclesUsed g.val) k.words.length) := by
  show execPacketStart dt g s = _
  simp [execPacketStart, idle, first, Core.start, State.packetWindow]

/-- Settles O48: with no load under way or to come the oldest packet may start; the registers, the window and the counter are
read off the state that its start gives. -/
theorem packetStartSetsRegistersAndWindow : Obligations.PacketStartSetsRegistersAndWindow := by
  unfold Obligations.PacketStartSetsRegistersAndWindow
  intro dt g s pk rest u c _ idle queue noLoad noPending
  have first : c.queue.find? (u.startable g.val) = some pk := by
    rw [queue, List.find?_cons_of_pos (State.startable_of_no_load (s := u) noLoad noPending pk)]
  refine ⟨_, exec_packetStart idle first, ?_⟩
  dsimp only
  rw [State.core_bump64, State.core_setCore_same]
  refine ⟨rfl, rfl, ?waiting, rfl, rfl, ?dreg, startRegs_acc _ _ _, startRegs_ptr _ _ _, startRegs_off _ _ _, startRegs_cnt _ _ _,
    rfl, rfl, rfl, ?inside, ?outside, rfl, rfl, ?others, ?cycles, ?counters, rfl⟩
  case waiting =>
    show c.queue.erase pk = rest
    rw [queue, List.erase_cons_head]
  case dreg =>
    rintro ⟨j, hj⟩
    rw [← u.packetWindow_length pk]
    interval_cases j <;> rfl
  case inside => exact fun i v hv => Tab.get_setAll_inside _ (State.packetWindow_getElem? hv) _ _
  case outside =>
    intro k hk
    rw [← u.packetWindow_length pk] at hk
    exact Tab.get_setAll_outside _ _ _ _ _ hk
  case others =>
    intro h hne
    rw [State.core_bump64, State.core_setCore_ne _ _ _ _ hne, State.core_elapse]
  case cycles => rw [State.count_bump64_same, State.count_setCore, State.count_elapse]
  case counters =>
    intro k hk
    rw [State.count_bump64_ne _ _ _ _ hk, State.count_setCore, State.count_elapse]

end Sys2Proof.Machine
end

section
/-! PROOFS. The feature processors' accumulator operations (R223 to R227): what an instruction of format A leaves alone, and the
flags, limits and rounding of its result. -/

namespace Sys2Proof.Machine

/-! ### Parallel moves (R219, R220) -/

/-- What parallel moves leave alone: of the registers they set D and P, beside them only the data memories. -/
structure MovesKeep (c c' : Core) : Prop where
  regs : c'.regs = { c.regs with d := c'.regs.d, p := c'.regs.p }
  rest : c' = { c with regs := c'.regs, x := c'.x, y := c'.y, badX := c'.badX, badY := c'.badY }

theorem MovesKeep.trans {c c' c'' : Core} (h : MovesKeep c c') (h' : MovesKeep c' c'') : MovesKeep c c'' where
  regs := by rw [h'.regs, h.regs]
  rest := by rw [h'.rest, h.rest]

theorem Core.writeX_movesKeep (c : Core) (a : BitVec 16) (v : BitVec 24) : MovesKeep c (c.writeX a v).1 := by
  unfold Core.writeX
  dsimp only
  split <;> exact ⟨rfl, rfl⟩

theorem Core.writeY_movesKeep (c : Core) (a : BitVec 16) (v : BitVec 24) : MovesKeep c (c.writeY a v).1 := by
  unfold Core.writeY
  dsimp only
  split <;> exact ⟨rfl, rfl⟩

theorem Core.setPtr_movesKeep (c : Core) (p : BitVec 3) (v : BitVec 16) : MovesKeep c (c.setPtr p v) := ⟨rfl, rfl⟩

theorem applyMove_movesKeep (c0 : Core) (isY : Bool) (m : Move) (c : Core) : MovesKeep c (applyMove c0 isY m c).core := by
  unfold applyMove
  split
  · exact ⟨rfl, rfl⟩
  · have transferred (a : BitVec 16) (v w : BitVec 24) :
        MovesKeep c (if m.store then (if isY then c.writeY a v else c.writeX a v)
          else ({ c with regs := c.regs.setD (m.reg.setWidth 3) w }, 0)).1 := by
      split
      · split
        · exact c.writeY_movesKeep a v
        · exact c.writeX_movesKeep a v
      · exact ⟨rfl, rfl⟩
    dsimp only
    split
    · exact transferred _ _ _
    · exact (transferred _ _ _).trans (Core.setPtr_movesKeep _ _ _)

theorem fmtA_movesKeep (op : FmtA → Regs → Regs) (f : FmtA) (c : Core) :
    MovesKeep { c with regs := op f c.regs } (fmtA op f c).core :=
  (applyMove_movesKeep c false f.x _).trans (applyMove_movesKeep c true f.y _)

/-! ### Issuing an instruction (R199) -/

section
variable {g : CoreId} {i : Instr} {s : State}

theorem core_fpIssue_of_ready (ready : FpReady g i s) (notDone : (fpEffect i (s.core g.val)).flow ≠ .done)
    (notDepth : (fpEffect i (s.core g.val)).flow ≠ .depth) :
    (s.fpIssue g i).core g.val = (fpEffect i (s.core g.val)).after i := by
  rw [fpIssue_of_ready g i s ready notDone notDepth, State.core_setCore_same]

/-- An instruction of format A sets the accumulators and SR of its operation, whatever its moves do. -/
theorem opRuns_of_fmtA {f : FmtA} {op : FmtA → Regs → Regs} {P : Regs → Regs → Prop}
    (run : exec i s = .next (s.fpIssue g i)) (effect : fpEffect i (s.core g.val) = fmtA op f (s.core g.val))
    (cost : fpCost i = 1)
    (kept : op f (s.core g.val).regs =
      { (s.core g.val).regs with a := (op f (s.core g.val).regs).a, sr := (op f (s.core g.val).regs).sr })
    (holds : ∀ r' : Regs, r'.a = (op f (s.core g.val).regs).a → r'.sr = (op f (s.core g.val).regs).sr →
      P (s.core g.val).regs r') : OpRuns g i s P := by
  intro ready
  have flow : (fpEffect i (s.core g.val)).flow = .fall := by rw [effect]; rfl
  have moved := fmtA_movesKeep op f (s.core g.val)
  rw [← effect] at moved
  generalize hc : (fpEffect i (s.core g.val)).core = c at moved
  have budget : c.budget = (s.core g.val).budget := by rw [moved.rest]
  have regs : c.regs = { (s.core g.val).regs with
      d := c.regs.d, p := c.regs.p, a := (op f (s.core g.val).regs).a, sr := (op f (s.core g.val).regs).sr } := by
    rw [moved.regs, kept]
  have frame := fpFrame_of_ready g i s ready (by simp [flow]) (by simp [flow]) (hc ▸ budget)
  rw [cost] at frame
  refine ⟨_, run, frame, ?_⟩
  rw [core_fpIssue_of_ready ready (by simp [flow]) (by simp [flow]), FpResult.after, flow, hc]
  dsimp only [afterInstr]
  refine ⟨?core, ?offsets, ?next, holds _ ?accs ?sr⟩
  case core => rw [moved.rest]; rfl
  case offsets => rw [loopEnd_n, regs]
  case next => exact nextWord_after _ _ (by rw [regs]) (by rw [regs]) (by rw [regs])
  case accs => rw [loopEnd_a, regs]
  case sr => rw [loopEnd_sr, regs]

end

/-! ### Flags of an accumulator result (R224) -/

theorem getLsbD_srAcc (sr : BitVec 16) (v : BitVec 56) (ov c : Bool) (n : Nat) :
    (srAcc sr v ov c).getLsbD n =
      if n = srSS then sr.getLsbD srSS || ov else if n = srC then c else if n = srV then ov
      else if n = srG then outOfFrac v.toInt else if n = srZ then decide (v = 0#56) else if n = srN then v.msb
      else sr.getLsbD n := by
  cases ov
  · simp (disch := decide) only [srAcc, getLsbD_putBit, Bool.false_eq_true, if_false, Bool.or_false]
    by_cases ss : n = srSS
    · subst ss; rfl
    · rw [if_neg ss]
  · simp (disch := decide) only [srAcc, getLsbD_putBit, if_true, Bool.or_true]

section
variable {v : BitVec 56} {ov c : Bool} {r r' : Regs} (written : r'.sr = srAcc r.sr v ov c)
include written

theorem flagsShow_of_srAcc : FlagsShow v.toInt r' := by
  have n : r'.flag srN = v.msb := by rw [Regs.flag, written, getLsbD_srAcc]; rfl
  have z : r'.flag srZ = decide (v = 0#56) := by rw [Regs.flag, written, getLsbD_srAcc]; rfl
  have g : r'.flag srG = outOfFrac v.toInt := by rw [Regs.flag, written, getLsbD_srAcc]; rfl
  have zero : v.toInt = 0 ↔ v = 0#56 := by rw [← BitVec.toInt_inj, BitVec.toInt_zero]
  refine ⟨?_, ?_, ?_⟩
  · rw [n, BitVec.msb_eq_toInt, decide_eq_true_iff]
  · rw [z, decide_eq_true_iff, zero]
  · rw [g, outOfFrac, decide_eq_true_iff]

theorem overflow_of_srAcc : r'.flag srV = ov := by rw [Regs.flag, written, getLsbD_srAcc]; rfl

theorem carry_of_srAcc : r'.flag srC = c := by rw [Regs.flag, written, getLsbD_srAcc]; rfl

theorem sticky_of_srAcc : r'.flag srSS = (r.flag srSS || ov) := by rw [Regs.flag, written, getLsbD_srAcc]; rfl

theorem srKept_of_srAcc : SrKept r r' := by
  intro n hc hv hz hn hg hss
  rw [written, getLsbD_srAcc, if_neg hss, if_neg hc, if_neg hv, if_neg hg, if_neg hz, if_neg hn]

end

/-! ### Results (R222 to R225) -/

theorem accFits_iff (e : Int) : accFits e = true ↔ Fits56 e := decide_eq_true_iff

theorem fits56_toInt (v : BitVec 56) : Fits56 v.toInt := ⟨v.le_toInt, v.toInt_lt⟩

theorem accValue_takes (sat : Bool) (e : Int) : AccTakes sat e (accValue sat e) := by
  unfold accValue
  refine ⟨fun fits => ?_, fun beyond limit => ?_, fun beyond wrap => ?_⟩
  · rw [if_pos ((accFits_iff e).mpr fits)]
    exact BitVec.toInt_ofInt_eq_self (by decide) fits.1 fits.2
  · rw [if_neg (mt (accFits_iff e).mp beyond), if_pos limit]
  · rw [if_neg (mt (accFits_iff e).mp beyond), wrap, if_neg Bool.false_ne_true, BitVec.toInt_ofInt]
    exact Int.emod_eq_zero_of_dvd Int.dvd_bmod_sub_self

theorem AccResult.acc_eq {r r' : Regs} {a : BitVec 2} {v : BitVec 56} {c : Bool} (h : AccResult a v.toInt c r r') :
    r'.acc a = v :=
  have ⟨⟨exactly, _⟩, _⟩ := h
  BitVec.toInt_inj.mp (exactly (fits56_toInt v))

theorem accResult_of_putAcc {r r' : Regs} {a : BitVec 2} {e : Int} {c : Bool} (accs : r'.a = (r.putAcc a e c).a)
    (flags : r'.sr = (r.putAcc a e c).sr) : AccResult a e c r r' := by
  have acc (b : BitVec 2) : r'.acc b = (r.setA a (accValue (r.flag srSAT) e)).acc b := by rw [Regs.acc, accs]; rfl
  have overflow : (!accFits e) = true ↔ ¬ Fits56 e := by rw [← accFits_iff, Bool.not_eq_true', Bool.not_eq_true]
  refine ⟨?_, fun b other => ?_, ?_, ?_, carry_of_srAcc flags, ?_, srKept_of_srAcc flags⟩
  · rw [acc, Regs.acc_setA_same]; exact accValue_takes _ e
  · rw [acc, Regs.acc_setA_ne _ _ _ _ other]
  · rw [acc, Regs.acc_setA_same]; exact flagsShow_of_srAcc flags
  · rw [overflow_of_srAcc flags, overflow]
  · rw [sticky_of_srAcc flags, Bool.or_eq_true, overflow]

theorem partner_ne (a : BitVec 2) : a ≠ a ^^^ 1#2 := by
  revert a; decide

theorem dualResult_of_putDual {r r' : Regs} {a : BitVec 2} {e e' : Int} {c : Bool} (accs : r'.a = (r.putDual a e c e').a)
    (flags : r'.sr = (r.putDual a e c e').sr) : DualResult a e e' c r r' := by
  have acc (b : BitVec 2) : r'.acc b =
      ((r.setA a (accValue (r.flag srSAT) e)).setA (a ^^^ 1#2) (accValue (r.flag srSAT) e')).acc b := by
    rw [Regs.acc, accs]; rfl
  have own : r'.acc a = accValue (r.flag srSAT) e := by
    rw [acc, Regs.acc_setA_ne _ _ _ _ (partner_ne a), Regs.acc_setA_same]
  have overflow : (!accFits e || !accFits e') = true ↔ ¬ Fits56 e ∨ ¬ Fits56 e' := by
    simp [← accFits_iff]
  refine ⟨?_, ?_, fun b other other' => ?_, ?_, ?_, carry_of_srAcc flags, ?_, srKept_of_srAcc flags⟩
  · rw [own]; exact accValue_takes _ e
  · rw [acc, Regs.acc_setA_same]; exact accValue_takes _ e'
  · rw [acc, Regs.acc_setA_ne _ _ _ _ other', Regs.acc_setA_ne _ _ _ _ other]
  · rw [own]; exact flagsShow_of_srAcc flags
  · rw [overflow_of_srAcc flags, overflow]
  · rw [sticky_of_srAcc flags, Bool.or_eq_true, overflow]

/-- The quotient of `e` and 2^24 is rounded by the remainder; a half by the parity of the quotient, or by the sign of `e`. -/
theorem round24_rounded (away : Bool) (e : Int) : Rounded away e (round24 away e) := by
  unfold Rounded round24
  rcases lt_trichotomy (e % 2 ^ 24) (2 ^ 23) with below | half | above
  · simp only [if_pos below]
    exact ⟨by omega, by omega, by omega, fun tie => by omega⟩
  · simp only [half, lt_irrefl, if_false]
    cases away
    case true =>
      simp only [if_true]
      split <;> exact ⟨by omega, by omega, by omega, fun tie => by omega⟩
    case false =>
      simp only [Bool.false_eq_true, if_false]
      split <;> exact ⟨by omega, by omega, by omega, fun tie => by omega⟩
  · simp only [if_neg above.not_gt, if_pos above]
    exact ⟨by omega, by omega, by omega, fun tie => by omega⟩

/-! ### Instructions (R227) -/

section
variable {g : CoreId} {i : Instr} {s : State} {f : FmtA} {op : FmtA → Regs → Regs} {P : Regs → Regs → Prop}
  {e e' : Int} {c : Bool}

/-- An instruction of format A that gives Aa one result. -/
theorem opRuns_of_putAcc (run : exec i s = .next (s.fpIssue g i))
    (effect : fpEffect i (s.core g.val) = fmtA op f (s.core g.val)) (cost : fpCost i = 1)
    (value : op f (s.core g.val).regs = (s.core g.val).regs.putAcc f.a e c)
    (holds : ∀ r', AccResult f.a e c (s.core g.val).regs r' → P (s.core g.val).regs r') : OpRuns g i s P := by
  refine opRuns_of_fmtA run effect cost (by rw [value]; rfl) (fun r' accs sr => holds r' ?_)
  rw [value] at accs sr
  exact accResult_of_putAcc accs sr

/-- An instruction of format A that gives Aa and its partner a result each. -/
theorem opRuns_of_putDual (run : exec i s = .next (s.fpIssue g i))
    (effect : fpEffect i (s.core g.val) = fmtA op f (s.core g.val)) (cost : fpCost i = 1)
    (value : op f (s.core g.val).regs = (s.core g.val).regs.putDual f.a e c e')
    (holds : ∀ r', DualResult f.a e e' c (s.core g.val).regs r' → P (s.core g.val).regs r') : OpRuns g i s P := by
  refine opRuns_of_fmtA run effect cost (by rw [value]; rfl) (fun r' accs sr => holds r' ?_)
  rw [value] at accs sr
  exact dualResult_of_putDual accs sr

theorem opRuns_of_logicAcc {word : BitVec 24 → BitVec 24 → BitVec 24} (run : exec i s = .next (s.fpIssue g i))
    (effect : fpEffect i (s.core g.val) = fmtA (logicAcc word) f (s.core g.val)) (cost : fpCost i = 1) :
    OpRuns g i s (fun r r' => r'.acc f.a = (r.acc f.a).extractLsb' 48 8 ++
        word ((r.acc f.a).extractLsb' 24 24) (r.dreg f.s) ++ (r.acc f.a).extractLsb' 0 24 ∧
      AccResult f.a (r'.acc f.a).toInt false r r') := by
  refine opRuns_of_putAcc run effect cost rfl (fun r' result => ?_)
  have stored := result.acc_eq
  rw [← stored] at result
  exact ⟨stored, result⟩

end

/-- Settles O38: every operation writes its exact or rounded result by `putAcc` or `putDual`, whose flags are those of R224. -/
theorem formatAProductsAndFlags : Obligations.FormatAProductsAndFlags := by
  unfold Obligations.FormatAProductsAndFlags
  refine ⟨fun g f s => ⟨?fmul, ?fmulr, ?fmac, ?fmacr, ?fmsb, ?fmsbr, ?rnda, ?smac⟩,
    fun g f s => ⟨?logic, ?dmul, ?dmac, ?dmsb, ?dmacr⟩⟩
  case fmul | fmac | fmsb | smac => exact opRuns_of_putAcc rfl rfl rfl rfl (fun _ result => result)
  case fmulr | fmacr | fmsbr | rnda =>
    exact opRuns_of_putAcc rfl rfl rfl rfl (fun _ result => ⟨_, round24_rounded _ _, result⟩)
  case logic =>
    intro i op listed
    simp only [List.mem_cons, List.not_mem_nil, or_false, Prod.mk.injEq] at listed
    obtain ⟨rfl, rfl⟩ | ⟨rfl, rfl⟩ | ⟨rfl, rfl⟩ := listed
    · exact opRuns_of_logicAcc rfl rfl rfl
    · exact opRuns_of_logicAcc rfl rfl rfl
    · exact opRuns_of_logicAcc rfl rfl rfl
  case dmul | dmac | dmsb => exact opRuns_of_putDual rfl rfl rfl rfl (fun _ result => result)
  case dmacr =>
    exact opRuns_of_putDual rfl rfl rfl rfl (fun _ result => ⟨_, _, round24_rounded _ _, round24_rounded _ _, result⟩)

end Sys2Proof.Machine
end

section
/-! PROOFS. The flow of a feature processor (R197, R229 to R231): loops opened, closed and repeated, jumps, and EXIT.cc. -/

namespace Sys2Proof.Machine

/-! ### What the flow leaves alone -/

/-- Only the program counter, the open levels and their counters differ. -/
structure FlowKeeps (r r' : Regs) : Prop where
  d : r'.d = r.d
  a : r'.a = r.a
  p : r'.p = r.p
  n : r'.n = r.n
  sr : r'.sr = r.sr

theorem FlowKeeps.trans {r r' r'' : Regs} (h : FlowKeeps r r') (h' : FlowKeeps r' r'') : FlowKeeps r r'' where
  d := h'.d.trans h.d
  a := h'.a.trans h.a
  p := h'.p.trans h.p
  n := h'.n.trans h.n
  sr := h'.sr.trans h.sr

theorem loopEnd_flowKeeps (pc : Nat) (l : List (Nat × Nat)) (r : Regs) : FlowKeeps r (loopEnd pc l r) :=
  ⟨loopEnd_d pc l r, loopEnd_a pc l r, loopEnd_p pc l r, loopEnd_n pc l r, loopEnd_sr pc l r⟩

theorem afterInstr_flowKeeps (r : Regs) (flow : Flow) : FlowKeeps r (afterInstr r flow) := by
  cases flow with
  | fall => exact loopEnd_flowKeeps _ _ _
  | leave e => exact loopEnd_flowKeeps _ _ _
  | goto | skip | depth | done => exact ⟨rfl, rfl, rfl, rfl, rfl⟩

/-- An instruction that has this effect on the registers and goes this way. -/
theorem flowRuns_of_effect {g : CoreId} {i : Instr} {n : Nat} {s : State} {P : Regs → Prop} {r : Regs} {flow : Flow}
    (run : exec i s = .next (s.fpIssue g i)) (cost : fpCost i = n)
    (effect : fpEffect i (s.core g.val) = ⟨{ s.core g.val with regs := r }, 0, 0, [], flow⟩)
    (kept : FlowKeeps (s.core g.val).regs r) (notDone : flow ≠ .done) (notDepth : flow ≠ .depth)
    (holds : P (afterInstr r flow)) : FlowRuns g i n s P := by
  intro ready
  have frame := fpFrame_of_ready g i s ready (by rwa [effect]) (by rwa [effect]) (by rw [effect])
  rw [cost] at frame
  refine ⟨_, run, frame, ?_⟩
  rw [core_fpIssue_of_ready ready (by rwa [effect]) (by rwa [effect]), effect]
  obtain ⟨d, a, p, n, sr⟩ := kept.trans (afterInstr_flowKeeps r flow)
  exact ⟨rfl, ⟨rfl, rfl, rfl, rfl, rfl⟩, d, a, p, n, sr, holds⟩

/-- An instruction that changes nothing and goes on. -/
theorem flowRuns_of_fall {g : CoreId} {i : Instr} {n : Nat} {s : State} {P : Regs → Prop}
    (run : exec i s = .next (s.fpIssue g i)) (cost : fpCost i = n)
    (effect : fpEffect i (s.core g.val) = ⟨s.core g.val, 0, 0, [], .fall⟩)
    (holds : P (afterInstr (s.core g.val).regs .fall)) : FlowRuns g i n s P :=
  flowRuns_of_effect (flow := .fall) run cost effect ⟨rfl, rfl, rfl, rfl, rfl⟩ (by decide) (by decide) holds

theorem nextWord_fall (r : Regs) : NextWord r (afterInstr r .fall) := nextWord_after r r rfl rfl rfl

/-! ### The end of a level (R197) -/

/-- The end of a level goes by the list of levels that it is given. -/
theorem loopEnd_withLoops (pc : Nat) (l x : List (Nat × Nat)) (r : Regs) :
    loopEnd pc l { r with loops := x } = loopEnd pc l r := by
  induction l with
  | nil => rfl
  | cons level outer ih =>
    rw [loopEnd, loopEnd, ih]
    rfl

section
variable {pc start : Nat} {outer : List (Nat × Nat)} {r : Regs}

theorem loopEnd_repeats (more : 1 < (r.level outer.length).toNat) :
    loopEnd pc ((start, pc) :: outer.reverse) r = { r.setLC (BitVec.ofNat 2 outer.length) (r.level outer.length - 1) with
      loops := outer ++ [(start, pc)], pc := start } := by
  rw [loopEnd, if_pos rfl, List.length_reverse, if_pos more, List.reverse_cons, List.reverse_reverse]

theorem loopEnd_closes (last : (r.level outer.length).toNat ≤ 1) :
    loopEnd pc ((start, pc) :: outer.reverse) r = loopEnd pc outer.reverse r := by
  rw [loopEnd, if_pos rfl, List.length_reverse, if_neg last.not_gt]

end

/-- Levels that end elsewhere stay open behind a closed one. -/
theorem loopEnd_outer {pc : Nat} {outer : List (Nat × Nat)} (r : Regs)
    (elsewhere : ∀ l, outer.getLast? = some l → l.2 ≠ pc) :
    (loopEnd pc outer.reverse r).pc = pc + 1 ∧ (loopEnd pc outer.reverse r).loops = outer ∧
      (loopEnd pc outer.reverse r).lc = r.lc := by
  have next := loopEnd_next pc { r with loops := outer } elsewhere
  rwa [loopEnd_withLoops] at next

/-! ### Jumps (R197) -/

section
variable {α : Type} (p : α → Bool) (l : List α)

theorem getElem?_takeWhile {m : Nat} (h : m < (l.takeWhile p).length) : (l.takeWhile p)[m]? = l[m]? := by
  conv_rhs => rw [← List.takeWhile_append_dropWhile (p := p) (l := l), List.getElem?_append_left h]

theorem getElem?_length_takeWhile {x : α} (h : l[(l.takeWhile p).length]? = some x) : p x = false := by
  induction l with
  | nil => simp at h
  | cons y l ih =>
    cases hy : p y
    · have first : y = x := by simpa [hy] using h
      rwa [← first]
    · exact ih (by simpa [hy] using h)

end

/-- A jump goes to its target; the open levels are those from the outermost on whose bodies hold it. -/
theorem jumpTo_closes (r : Regs) (target : Nat) :
    (jumpTo r target).pc = target ∧ (jumpTo r target).lc = r.lc ∧
    (∀ m, m < (jumpTo r target).loops.length → (jumpTo r target).loops[m]? = r.loops[m]?) ∧
    (jumpTo r target).loops.length ≤ r.loops.length ∧
    (∀ l ∈ (jumpTo r target).loops, l.1 ≤ target ∧ target ≤ l.2) ∧
    (∀ l, r.loops[(jumpTo r target).loops.length]? = some l → ¬ (l.1 ≤ target ∧ target ≤ l.2)) :=
  ⟨rfl, rfl, fun _ => getElem?_takeWhile _ _, (List.takeWhile_sublist _).length_le,
    fun l inside => by simpa using List.mem_takeWhile_imp (l := r.loops) inside,
    fun l first => by simpa using getElem?_length_takeWhile _ r.loops first⟩

/-! ### Opening a level (R197) -/

theorem fpLegal_of_fpDecode {g : CoreId} {w : BitVec 48} {i : Instr} (h : fpDecode g w = some i) : fpLegal i = true := by
  unfold fpDecode at h
  dsimp only at h
  split at h
  · split at h
    case isTrue legal => rwa [← Option.some.inj h]
    case isFalse => cases h
  · cases h

/-- What LOOP and LOOPR do with a count, at the end address `n` words on: a new innermost level, or the word behind its body. -/
def OpensLevel (count : BitVec 16) (n : Nat) (r r' : Regs) : Prop :=
  (count = 0#16 → r'.pc = r.pc + n + 1 ∧ r'.loops = r.loops ∧ r'.lc = r.lc) ∧
  (count ≠ 0#16 → r'.pc = r.pc + 1 ∧ r'.loops = r.loops ++ [(r.pc + 1, r.pc + n)] ∧
    r'.cnt (BitVec.ofNat 2 r.loops.length) = count ∧ ∀ j, j ≠ BitVec.ofNat 2 r.loops.length → r'.cnt j = r.cnt j)

/-- The registers with a new level, before the program counter moves on. -/
def Regs.openLevel (r : Regs) (count : BitVec 16) (n : Nat) : Regs :=
  { r.setLC (BitVec.ofNat 2 r.loops.length) count with loops := r.loops ++ [(r.pc + 1, r.pc + n)] }

/-- The body of a new level is not empty, so the level does not end at the LOOP itself. -/
theorem opensLevel_openLevel {count : BitVec 16} {n : Nat} (r : Regs) (counts : count ≠ 0#16) (body : n ≠ 0) :
    OpensLevel count n r (afterInstr (r.openLevel count n) .fall) := by
  have elsewhere : ∀ l, (r.openLevel count n).loops.getLast? = some l → l.2 ≠ (r.openLevel count n).pc := by
    intro l last
    rw [Regs.openLevel, List.getLast?_concat, Option.some.injEq] at last
    rw [← last]
    exact fun ends => body (Nat.add_eq_left.mp ends)
  obtain ⟨pc, loops, lc⟩ := nextWord_fall _ elsewhere
  refine ⟨fun none => absurd none counts, fun _ => ⟨pc, loops, ?_, fun j other => ?_⟩⟩
  · rw [Regs.cnt, lc]
    exact Regs.cnt_setLC_same _ _ _
  · rw [Regs.cnt, lc]
    exact Regs.cnt_setLC_ne _ _ _ _ other

theorem flowRuns_of_fpLoop {g : CoreId} {i : Instr} {s : State} {count : BitVec 16} {n : BitVec 14}
    (run : exec i s = .next (s.fpIssue g i)) (cost : fpCost i = 1)
    (effect : fpEffect i (s.core g.val) = fpLoop count n.toNat (s.core g.val))
    (body : n ≠ 0#14) (level : count = 0#16 ∨ (s.core g.val).regs.loops.length < 4) :
    FlowRuns g i 1 s (OpensLevel count n.toNat (s.core g.val).regs) := by
  by_cases zero : count = 0#16
  · refine flowRuns_of_effect run cost (effect.trans (if_pos zero)) ⟨rfl, rfl, rfl, rfl, rfl⟩ (by simp) (by simp) ?_
    exact ⟨fun _ => ⟨rfl, rfl, rfl⟩, fun counts => absurd zero counts⟩
  · have free : ¬ 4 ≤ (s.core g.val).regs.loops.length := (level.resolve_left zero).not_ge
    have positive : n.toNat ≠ 0 := fun empty => body (BitVec.eq_of_toNat_eq empty)
    exact flowRuns_of_effect run cost (effect.trans ((if_neg zero).trans (if_neg free))) ⟨rfl, rfl, rfl, rfl, rfl⟩
      (by simp) (by simp) (opensLevel_openLevel _ zero positive)

/-! ### EXIT.cc (R231) -/

theorem eExit_taken {cc : BitVec 4} {c : Core} {l : Nat × Nat} {outer : List (Nat × Nat)}
    (holds : condHolds c.regs.sr cc = true) (loops : c.regs.loops = outer ++ [l]) :
    eExit cc c = ⟨{ c with regs := { c.regs with loops := outer } }, 0, 0, [], .leave l.2⟩ := by
  simp [eExit, loops, holds]

theorem eExit_without_effect {cc : BitVec 4} {c : Core} (h : c.regs.loops = [] ∨ condHolds c.regs.sr cc = false) :
    eExit cc c = ⟨c, 0, 0, [], .fall⟩ := by
  rcases h with closed | fails
  · simp [eExit, closed]
  · cases last : c.regs.loops.getLast? <;> simp [eExit, last, fails]

/-! ### The statement -/

/-- Settles O45: each instruction's effect is read off the model, and the end of a level, or the levels that a jump keeps,
give the rest. -/
theorem loopsAndJumps : Obligations.LoopsAndJumps := by
  unfold Obligations.LoopsAndJumps
  refine ⟨fun g d k n addr cc s => ⟨?conditions, ?loop, ?loopr, ?jump, ?jcc, ?exit⟩, fun g s outer start => ?bodyEnd⟩
  case conditions => simp [condHolds, Regs.flag]
  case loop | loopr =>
    intro level ready
    exact flowRuns_of_fpLoop rfl rfl rfl (of_decide_eq_true (fpLegal_of_fpDecode ready.word)) level ready
  case jump =>
    exact flowRuns_of_effect rfl rfl rfl ⟨rfl, rfl, rfl, rfl, rfl⟩ (by simp) (by simp) (jumpTo_closes _ _)
  case jcc =>
    cases taken : condHolds (s.core g.val).regs.sr cc
    · exact flowRuns_of_fall rfl rfl (by rw [fpEffect, eJump, taken]; rfl)
        ⟨fun jumps => absurd jumps Bool.false_ne_true, fun _ => nextWord_fall _⟩
    · exact flowRuns_of_effect (flow := .goto addr.toNat) rfl rfl (by rw [fpEffect, eJump, taken]; rfl)
        ⟨rfl, rfl, rfl, rfl, rfl⟩ (by simp) (by simp)
        ⟨fun _ => jumpTo_closes _ _, fun stays => absurd stays.symm Bool.false_ne_true⟩
  case exit =>
    by_cases quiet : (s.core g.val).regs.loops = [] ∨ condHolds (s.core g.val).regs.sr cc = false
    · refine flowRuns_of_fall rfl rfl (eExit_without_effect quiet) ⟨fun _ => nextWord_fall _, fun holds l outer loops => ?_⟩
      simp [loops, holds] at quiet
    · obtain ⟨opened, holds⟩ := not_or.mp quiet
      obtain ⟨outer, l, loops⟩ := (List.eq_nil_or_concat' _).resolve_left opened
      refine flowRuns_of_effect rfl rfl (eExit_taken (Bool.not_eq_false _ ▸ holds) loops) ⟨rfl, rfl, rfl, rfl, rfl⟩
        (by simp) (by simp) ⟨fun stays => absurd stays quiet, fun _ l' outer' loops' elsewhere => ?_⟩
      obtain ⟨rfl, rfl⟩ := List.append_singleton_inj.mp (loops.symm.trans loops')
      exact loopEnd_outer { (s.core g.val).regs with loops := outer } elsewhere
  case bodyEnd =>
    intro r loops elsewhere
    have fall : afterInstr r .fall = loopEnd r.pc ((start, r.pc) :: outer.reverse) r := by
      rw [afterInstr, loops, List.reverse_concat]
    refine flowRuns_of_fall rfl rfl rfl ⟨fun more => ?_, fun last => ?_⟩
    · rw [fall, loopEnd_repeats more]
      exact ⟨rfl, loops.symm, Regs.cnt_setLC_same _ _ _, fun j other => Regs.cnt_setLC_ne _ _ _ _ other⟩
    · rw [fall, loopEnd_closes last]
      exact loopEnd_outer r elsewhere

end Sys2Proof.Machine
end
